-- ==== Sys2Proof/Config/PeriodTables.lean ====
section
/-! DEFINITION. The reference contents of the period ROM for the configuration REF (R48), copied
from spec/20_memory.md section 9, 64 entries a definition. The sums the rule gives as a check are
theorems of Tests/Slice0.lean. -/

namespace Sys2Proof.PeriodTables

/-- Entries 0 to 63 of row 0 (low range) of REF. -/
def refLow0 : List Nat :=
  [20000000, 19910170, 19820743, 19731718, 19643092, 19554865, 19467034, 19379598,
   19292554, 19205901, 19119637, 19033761, 18948271, 18863164, 18778440, 18694097,
   18610132, 18526544, 18443332, 18360493, 18278027, 18195931, 18114204, 18032843,
   17951849, 17871217, 17790949, 17711040, 17631491, 17552299, 17473462, 17394980,
   17316850, 17239071, 17161642, 17084560, 17007824, 16931434, 16855386, 16779680,
   16704313, 16629286, 16554595, 16480240, 16406218, 16332530, 16259172, 16186144,
   16113443, 16041069, 15969021, 15897296, 15825893, 15754810, 15684047, 15613602,
   15543474, 15473660, 15404160, 15334972, 15266094, 15197526, 15129267, 15061313]

/-- Entries 64 to 127 of row 0 (low range) of REF. -/
def refLow1 : List Nat :=
  [14993665, 14926321, 14859279, 14792538, 14726097, 14659955, 14594110, 14528560,
   14463305, 14398342, 14333672, 14269292, 14205201, 14141399, 14077882, 14014651,
   13951704, 13889040, 13826657, 13764554, 13702731, 13641185, 13579915, 13518921,
   13458200, 13397752, 13337576, 13277670, 13218033, 13158664, 13099562, 13040725,
   12982153, 12923843, 12865795, 12808009, 12750481, 12693212, 12636200, 12579445,
   12522944, 12466697, 12410703, 12354960, 12299467, 12244224, 12189229, 12134481,
   12079979, 12025721, 11971707, 11917936, 11864407, 11811118, 11758068, 11705256,
   11652682, 11600344, 11548241, 11496371, 11444735, 11393331, 11342158, 11291214]

/-- Entries 128 to 191 of row 0 (low range) of REF. -/
def refLow2 : List Nat :=
  [11240500, 11190013, 11139753, 11089718, 11039909, 10990323, 10940960, 10891818,
   10842897, 10794196, 10745714, 10697449, 10649402, 10601570, 10553953, 10506549,
   10459359, 10412381, 10365613, 10319056, 10272708, 10226568, 10180635, 10134908,
   10089387, 10044071, 9998958, 9954047, 9909338, 9864830, 9820522, 9776413,
   9732502, 9688789, 9645271, 9601950, 9558822, 9515889, 9473148, 9430599,
   9388241, 9346074, 9304096, 9262306, 9220705, 9179290, 9138061, 9097017,
   9056158, 9015482, 8974989, 8934677, 8894547, 8854597, 8814827, 8775235,
   8735820, 8696583, 8657523, 8618637, 8579926, 8541390, 8503026, 8464834]

/-- Entries 192 to 255 of row 0 (low range) of REF. -/
def refLow3 : List Nat :=
  [8426814, 8388965, 8351286, 8313776, 8276435, 8239261, 8202254, 8165414,
   8128739, 8092228, 8055882, 8019699, 7983678, 7947819, 7912122, 7876584,
   7841206, 7805987, 7770927, 7736023, 7701277, 7666687, 7632252, 7597971,
   7563845, 7529872, 7496051, 7462382, 7428865, 7395498, 7362281, 7329213,
   7296294, 7263523, 7230898, 7198421, 7166089, 7133902, 7101860, 7069962,
   7038207, 7006595, 6975125, 6943796, 6912608, 6881560, 6850651, 6819881,
   6789250, 6758756, 6728399, 6698178, 6668093, 6638143, 6608328, 6578646,
   6549098, 6519683, 6490400, 6461248, 6432227, 6403337, 6374576, 6345945]

/-- Entries 256 to 319 of row 0 (low range) of REF. -/
def refLow4 : List Nat :=
  [6317442, 6289067, 6260819, 6232699, 6204704, 6176836, 6149093, 6121474,
   6093979, 6066608, 6039360, 6012234, 5985230, 5958347, 5931585, 5904943,
   5878421, 5852018, 5825734, 5799567, 5773518, 5747587, 5721771, 5696072,
   5670488, 5645019, 5619664, 5594423, 5569296, 5544281, 5519379, 5494589,
   5469910, 5445341, 5420883, 5396536, 5372297, 5348167, 5324146, 5300232,
   5276426, 5252727, 5229134, 5205648, 5182266, 5158990, 5135818, 5112751,
   5089787, 5066926, 5044168, 5021512, 4998958, 4976505, 4954153, 4931901,
   4909749, 4887697, 4865744, 4843889, 4822133, 4800474, 4778913, 4757448]

/-- Entries 320 to 383 of row 0 (low range) of REF. -/
def refLow5 : List Nat :=
  [4736080, 4714808, 4693631, 4672550, 4651563, 4630670, 4609872, 4589166,
   4568554, 4548034, 4527607, 4507271, 4487027, 4466873, 4446810, 4426837,
   4406954, 4387160, 4367455, 4347838, 4328310, 4308869, 4289516, 4270250,
   4251070, 4231976, 4212968, 4194045, 4175208, 4156455, 4137786, 4119201,
   4100700, 4082281, 4063946, 4045692, 4027521, 4009431, 3991423, 3973495,
   3955648, 3937882, 3920194, 3902587, 3885058, 3867609, 3850237, 3832944,
   3815728, 3798590, 3781528, 3764543, 3747635, 3730802, 3714045, 3697364,
   3680757, 3664225, 3647767, 3631383, 3615072, 3598835, 3582671, 3566579]

/-- Entries 384 to 447 of row 0 (low range) of REF. -/
def refLow6 : List Nat :=
  [3550560, 3534613, 3518737, 3502932, 3487199, 3471536, 3455944, 3440421,
   3424969, 3409585, 3394271, 3379026, 3363849, 3348740, 3333699, 3318726,
   3303819, 3288980, 3274208, 3259502, 3244862, 3230287, 3215778, 3201335,
   3186956, 3172642, 3158392, 3144206, 3130083, 3116025, 3102029, 3088096,
   3074226, 3060418, 3046672, 3032988, 3019365, 3005804, 2992303, 2978863,
   2965483, 2952164, 2938904, 2925704, 2912563, 2899481, 2886458, 2873494,
   2860587, 2847739, 2834948, 2822215, 2809539, 2796920, 2784358, 2771852,
   2759402, 2747008, 2734670, 2722387, 2710159, 2697986, 2685868, 2673805]

/-- Entries 448 to 511 of row 0 (low range) of REF. -/
def refLow7 : List Nat :=
  [2661795, 2649840, 2637938, 2626090, 2614295, 2602552, 2590863, 2579226,
   2567642, 2556109, 2544628, 2533199, 2521821, 2510494, 2499218, 2487993,
   2476818, 2465693, 2454619, 2443594, 2432618, 2421692, 2410815, 2399987,
   2389207, 2378476, 2367793, 2357158, 2346571, 2336031, 2325539, 2315094,
   2304696, 2294344, 2284039, 2273780, 2263567, 2253401, 2243279, 2233204,
   2223173, 2213188, 2203247, 2193351, 2183500, 2173693, 2163929, 2154210,
   2144534, 2134902, 2125313, 2115767, 2106264, 2096804, 2087386, 2078011,
   2068677, 2059386, 2050136, 2040928, 2031761, 2022635, 2013551, 2004507]

/-- Entries 512 to 575 of row 0 (low range) of REF. -/
def refLow8 : List Nat :=
  [1995503, 1986541, 1977618, 1968736, 1959893, 1951090, 1942327, 1933603,
   1924918, 1916272, 1907665, 1899097, 1890567, 1882075, 1873622, 1865207,
   1856829, 1848489, 1840187, 1831921, 1823693, 1815502, 1807348, 1799230,
   1791149, 1783104, 1775095, 1767122, 1759185, 1751284, 1743418, 1735587,
   1727792, 1720031, 1712306, 1704615, 1696959, 1689337, 1681749, 1674195,
   1666676, 1659190, 1651738, 1644319, 1636933, 1629581, 1622262, 1614975,
   1607722, 1600500, 1593312, 1586155, 1579031, 1571939, 1564879, 1557850,
   1550853, 1543887, 1536953, 1530049, 1523177, 1516336, 1509525, 1502745]

/-- Entries 576 to 639 of row 0 (low range) of REF. -/
def refLow9 : List Nat :=
  [1495996, 1489276, 1482587, 1475928, 1469299, 1462700, 1456130, 1449590,
   1443079, 1436597, 1430145, 1423721, 1417326, 1410960, 1404623, 1398314,
   1392034, 1385781, 1379557, 1373361, 1367192, 1361052, 1354938, 1348853,
   1342794, 1336763, 1330759, 1324782, 1318832, 1312908, 1307011, 1301141,
   1295297, 1289479, 1283687, 1277921, 1272181, 1266467, 1260779, 1255116,
   1249479, 1243867, 1238280, 1232718, 1227181, 1221670, 1216182, 1210720,
   1205282, 1199868, 1194479, 1189114, 1183773, 1178456, 1173163, 1167894,
   1162648, 1157426, 1152228, 1147052, 1141900, 1136772, 1131666, 1126583]

/-- Entries 640 to 703 of row 0 (low range) of REF. -/
def refLow10 : List Nat :=
  [1121523, 1116485, 1111471, 1106479, 1101509, 1096561, 1091636, 1086733,
   1081852, 1076993, 1072155, 1067340, 1062546, 1057773, 1053022, 1048293,
   1043584, 1038897, 1034231, 1029586, 1024961, 1020358, 1015775, 1011212,
   1006670, 1002149, 997648, 993167, 988706, 984265, 979844, 975443,
   971062, 966701, 962359, 958036, 953733, 949449, 945185, 940940,
   936713, 932506, 928318, 924148, 919997, 915865, 911752, 907656,
   903580, 899521, 895481, 891459, 887455, 883469, 879501, 875551,
   871618, 867703, 863806, 859926, 856064, 852219, 848391, 844580]

/-- Entries 704 to 767 of row 0 (low range) of REF. -/
def refLow11 : List Nat :=
  [840787, 837010, 833251, 829508, 825783, 822074, 818381, 814706,
   811046, 807403, 803777, 800167, 796573, 792995, 789433, 785888,
   782358, 778844, 775346, 771863, 768396, 764945, 761509, 758089,
   754684, 751294, 747920, 744560, 741216, 737887, 734573, 731274,
   727989, 724719, 721464, 718224, 714998, 711786, 708589, 705407,
   702238, 699084, 695944, 692818, 689707, 686609, 683525, 680455,
   677399, 674356, 671327, 668312, 665310, 662322, 659347, 656386,
   653437, 650502, 647581, 644672, 641777, 638894, 636024, 633168]

/-- Entries 768 to 831 of row 0 (low range) of REF. -/
def refLow12 : List Nat :=
  [630324, 627493, 624674, 621869, 619075, 616295, 613527, 610771,
   608028, 605297, 602578, 599872, 597177, 594495, 591825, 589167,
   586520, 583886, 581264, 578653, 576054, 573466, 570891, 568327,
   565774, 563233, 560703, 558185, 555677, 553182, 550697, 548224,
   545761, 543310, 540870, 538440, 536022, 533614, 531218, 528832,
   526456, 524092, 521738, 519394, 517062, 514739, 512427, 510126,
   507834, 505553, 503283, 501022, 498772, 496532, 494301, 492081,
   489871, 487671, 485480, 483300, 481129, 478968, 476817, 474675]

/-- Entries 832 to 895 of row 0 (low range) of REF. -/
def refLow13 : List Nat :=
  [472543, 470421, 468308, 466204, 464110, 462026, 459951, 457885,
   455828, 453781, 451743, 449714, 447694, 445683, 443681, 441688,
   439705, 437730, 435764, 433806, 431858, 429918, 427987, 426065,
   424151, 422246, 420350, 418462, 416582, 414711, 412848, 410994,
   409148, 407310, 405481, 403660, 401847, 400042, 398245, 396456,
   394675, 392903, 391138, 389381, 387632, 385891, 384158, 382433,
   380715, 379005, 377303, 375608, 373921, 372241, 370570, 368905,
   367248, 365599, 363957, 362322, 360694, 359074, 357462, 355856]

/-- Entries 896 to 959 of row 0 (low range) of REF. -/
def refLow14 : List Nat :=
  [354258, 352667, 351083, 349506, 347936, 346373, 344817, 343269,
   341727, 340192, 338664, 337143, 335629, 334121, 332620, 331126,
   329639, 328159, 326685, 325217, 323757, 322302, 320855, 319414,
   317979, 316551, 315129, 313714, 312305, 310902, 309505, 308115,
   306731, 305354, 303982, 302617, 301258, 299905, 298558, 297217,
   295882, 294553, 293230, 291913, 290601, 289296, 287997, 286703,
   285416, 284134, 282857, 281587, 280322, 279063, 277810, 276562,
   275320, 274083, 272852, 271627, 270407, 269192, 267983, 266779]

/-- Entries 960 to 1023 of row 0 (low range) of REF. -/
def refLow15 : List Nat :=
  [265581, 264388, 263201, 262019, 260842, 259670, 258504, 257343,
   256187, 255036, 253891, 252750, 251615, 250485, 249360, 248240,
   247125, 246015, 244910, 243810, 242715, 241625, 240539, 239459,
   238384, 237313, 236247, 235186, 234130, 233078, 232031, 230989,
   229951, 228919, 227890, 226867, 225848, 224833, 223824, 222818,
   221817, 220821, 219829, 218842, 217859, 216881, 215906, 214937,
   213971, 213010, 212053, 211101, 210153, 209209, 208269, 207334,
   206403, 205476, 204553, 203634, 202719, 201809, 200902, 200000]

/-- row 0 (low range) of REF: R48, spec/20_memory.md section 9. -/
def refLow : List Nat :=
  refLow0 ++ (refLow1 ++ (refLow2 ++ (refLow3 ++ (refLow4 ++ (refLow5 ++ (refLow6 ++ (refLow7 ++ (refLow8 ++ (refLow9 ++ (refLow10 ++ (refLow11 ++ (refLow12 ++ (refLow13 ++ (refLow14 ++ (refLow15)))))))))))))))

/-- Entries 0 to 63 of row 1 (high range) of REF. -/
def refHigh0 : List Nat :=
  [20000, 19915, 19829, 19745, 19660, 19576, 19493, 19409,
   19326, 19244, 19161, 19079, 18998, 18917, 18836, 18755,
   18675, 18595, 18516, 18437, 18358, 18279, 18201, 18124,
   18046, 17969, 17892, 17816, 17740, 17664, 17588, 17513,
   17438, 17364, 17289, 17215, 17142, 17069, 16996, 16923,
   16851, 16779, 16707, 16636, 16564, 16494, 16423, 16353,
   16283, 16213, 16144, 16075, 16006, 15938, 15870, 15802,
   15735, 15667, 15600, 15534, 15467, 15401, 15335, 15270]

/-- Entries 64 to 127 of row 1 (high range) of REF. -/
def refHigh1 : List Nat :=
  [15204, 15139, 15075, 15010, 14946, 14882, 14819, 14755,
   14692, 14629, 14567, 14505, 14443, 14381, 14319, 14258,
   14197, 14137, 14076, 14016, 13956, 13896, 13837, 13778,
   13719, 13660, 13602, 13544, 13486, 13428, 13371, 13314,
   13257, 13200, 13144, 13088, 13032, 12976, 12920, 12865,
   12810, 12756, 12701, 12647, 12593, 12539, 12485, 12432,
   12379, 12326, 12273, 12221, 12168, 12116, 12065, 12013,
   11962, 11911, 11860, 11809, 11759, 11708, 11658, 11608]

/-- Entries 128 to 191 of row 1 (high range) of REF. -/
def refHigh2 : List Nat :=
  [11559, 11509, 11460, 11411, 11362, 11314, 11265, 11217,
   11169, 11122, 11074, 11027, 10980, 10933, 10886, 10839,
   10793, 10747, 10701, 10655, 10610, 10564, 10519, 10474,
   10430, 10385, 10341, 10296, 10252, 10209, 10165, 10121,
   10078, 10035, 9992, 9949, 9907, 9865, 9822, 9780,
   9739, 9697, 9656, 9614, 9573, 9532, 9492, 9451,
   9411, 9370, 9330, 9290, 9251, 9211, 9172, 9133,
   9094, 9055, 9016, 8977, 8939, 8901, 8863, 8825]

/-- Entries 192 to 255 of row 1 (high range) of REF. -/
def refHigh3 : List Nat :=
  [8787, 8750, 8712, 8675, 8638, 8601, 8564, 8528,
   8491, 8455, 8419, 8383, 8347, 8311, 8276, 8240,
   8205, 8170, 8135, 8100, 8066, 8031, 7997, 7963,
   7929, 7895, 7861, 7828, 7794, 7761, 7728, 7695,
   7662, 7629, 7596, 7564, 7531, 7499, 7467, 7435,
   7404, 7372, 7340, 7309, 7278, 7247, 7216, 7185,
   7154, 7124, 7093, 7063, 7033, 7003, 6973, 6943,
   6913, 6884, 6854, 6825, 6796, 6767, 6738, 6709]

/-- Entries 256 to 319 of row 1 (high range) of REF. -/
def refHigh4 : List Nat :=
  [6680, 6652, 6623, 6595, 6567, 6539, 6511, 6483,
   6455, 6428, 6400, 6373, 6346, 6318, 6291, 6265,
   6238, 6211, 6185, 6158, 6132, 6106, 6079, 6053,
   6028, 6002, 5976, 5951, 5925, 5900, 5875, 5850,
   5825, 5800, 5775, 5750, 5726, 5701, 5677, 5653,
   5628, 5604, 5580, 5556, 5533, 5509, 5486, 5462,
   5439, 5415, 5392, 5369, 5346, 5323, 5301, 5278,
   5256, 5233, 5211, 5188, 5166, 5144, 5122, 5100]

/-- Entries 320 to 383 of row 1 (high range) of REF. -/
def refHigh5 : List Nat :=
  [5078, 5057, 5035, 5014, 4992, 4971, 4950, 4928,
   4907, 4886, 4866, 4845, 4824, 4803, 4783, 4762,
   4742, 4722, 4702, 4682, 4662, 4642, 4622, 4602,
   4582, 4563, 4543, 4524, 4504, 4485, 4466, 4447,
   4428, 4409, 4390, 4371, 4353, 4334, 4316, 4297,
   4279, 4261, 4242, 4224, 4206, 4188, 4170, 4152,
   4135, 4117, 4099, 4082, 4064, 4047, 4030, 4013,
   3995, 3978, 3961, 3944, 3927, 3911, 3894, 3877]

/-- Entries 384 to 447 of row 1 (high range) of REF. -/
def refHigh6 : List Nat :=
  [3861, 3844, 3828, 3811, 3795, 3779, 3763, 3747,
   3731, 3715, 3699, 3683, 3667, 3652, 3636, 3621,
   3605, 3590, 3574, 3559, 3544, 3529, 3514, 3499,
   3484, 3469, 3454, 3439, 3424, 3410, 3395, 3381,
   3366, 3352, 3338, 3323, 3309, 3295, 3281, 3267,
   3253, 3239, 3225, 3211, 3198, 3184, 3170, 3157,
   3143, 3130, 3116, 3103, 3090, 3077, 3063, 3050,
   3037, 3024, 3011, 2999, 2986, 2973, 2960, 2948]

/-- Entries 448 to 511 of row 1 (high range) of REF. -/
def refHigh7 : List Nat :=
  [2935, 2922, 2910, 2898, 2885, 2873, 2861, 2848,
   2836, 2824, 2812, 2800, 2788, 2776, 2764, 2752,
   2741, 2729, 2717, 2706, 2694, 2683, 2671, 2660,
   2648, 2637, 2626, 2614, 2603, 2592, 2581, 2570,
   2559, 2548, 2537, 2526, 2516, 2505, 2494, 2483,
   2473, 2462, 2452, 2441, 2431, 2420, 2410, 2400,
   2390, 2379, 2369, 2359, 2349, 2339, 2329, 2319,
   2309, 2299, 2289, 2280, 2270, 2260, 2250, 2241]

/-- Entries 512 to 575 of row 1 (high range) of REF. -/
def refHigh8 : List Nat :=
  [2231, 2222, 2212, 2203, 2193, 2184, 2175, 2165,
   2156, 2147, 2138, 2129, 2119, 2110, 2101, 2092,
   2083, 2075, 2066, 2057, 2048, 2039, 2031, 2022,
   2013, 2005, 1996, 1988, 1979, 1971, 1962, 1954,
   1945, 1937, 1929, 1921, 1912, 1904, 1896, 1888,
   1880, 1872, 1864, 1856, 1848, 1840, 1832, 1824,
   1817, 1809, 1801, 1793, 1786, 1778, 1771, 1763,
   1755, 1748, 1740, 1733, 1726, 1718, 1711, 1704]

/-- Entries 576 to 639 of row 1 (high range) of REF. -/
def refHigh9 : List Nat :=
  [1696, 1689, 1682, 1675, 1667, 1660, 1653, 1646,
   1639, 1632, 1625, 1618, 1611, 1604, 1598, 1591,
   1584, 1577, 1570, 1564, 1557, 1550, 1544, 1537,
   1531, 1524, 1517, 1511, 1505, 1498, 1492, 1485,
   1479, 1473, 1466, 1460, 1454, 1448, 1441, 1435,
   1429, 1423, 1417, 1411, 1405, 1399, 1393, 1387,
   1381, 1375, 1369, 1363, 1358, 1352, 1346, 1340,
   1334, 1329, 1323, 1317, 1312, 1306, 1301, 1295]

/-- Entries 640 to 703 of row 1 (high range) of REF. -/
def refHigh10 : List Nat :=
  [1290, 1284, 1279, 1273, 1268, 1262, 1257, 1251,
   1246, 1241, 1235, 1230, 1225, 1220, 1214, 1209,
   1204, 1199, 1194, 1189, 1184, 1179, 1174, 1169,
   1164, 1159, 1154, 1149, 1144, 1139, 1134, 1129,
   1124, 1120, 1115, 1110, 1105, 1101, 1096, 1091,
   1086, 1082, 1077, 1073, 1068, 1063, 1059, 1054,
   1050, 1045, 1041, 1036, 1032, 1028, 1023, 1019,
   1015, 1010, 1006, 1002, 997, 993, 989, 985]

/-- Entries 704 to 767 of row 1 (high range) of REF. -/
def refHigh11 : List Nat :=
  [980, 976, 972, 968, 964, 960, 955, 951,
   947, 943, 939, 935, 931, 927, 923, 919,
   915, 911, 908, 904, 900, 896, 892, 888,
   885, 881, 877, 873, 870, 866, 862, 858,
   855, 851, 847, 844, 840, 837, 833, 830,
   826, 822, 819, 815, 812, 808, 805, 802,
   798, 795, 791, 788, 785, 781, 778, 775,
   771, 768, 765, 761, 758, 755, 752, 748]

/-- Entries 768 to 831 of row 1 (high range) of REF. -/
def refHigh12 : List Nat :=
  [745, 742, 739, 736, 733, 729, 726, 723,
   720, 717, 714, 711, 708, 705, 702, 699,
   696, 693, 690, 687, 684, 681, 678, 675,
   672, 670, 667, 664, 661, 658, 655, 653,
   650, 647, 644, 642, 639, 636, 633, 631,
   628, 625, 623, 620, 617, 615, 612, 609,
   607, 604, 602, 599, 596, 594, 591, 589,
   586, 584, 581, 579, 576, 574, 571, 569]

/-- Entries 832 to 895 of row 1 (high range) of REF. -/
def refHigh13 : List Nat :=
  [567, 564, 562, 559, 557, 555, 552, 550,
   547, 545, 543, 540, 538, 536, 534, 531,
   529, 527, 525, 522, 520, 518, 516, 513,
   511, 509, 507, 505, 503, 500, 498, 496,
   494, 492, 490, 488, 486, 484, 481, 479,
   477, 475, 473, 471, 469, 467, 465, 463,
   461, 459, 457, 455, 453, 452, 450, 448,
   446, 444, 442, 440, 438, 436, 434, 433]

/-- Entries 896 to 959 of row 1 (high range) of REF. -/
def refHigh14 : List Nat :=
  [431, 429, 427, 425, 423, 422, 420, 418,
   416, 414, 413, 411, 409, 407, 406, 404,
   402, 400, 399, 397, 395, 394, 392, 390,
   389, 387, 385, 384, 382, 380, 379, 377,
   376, 374, 372, 371, 369, 368, 366, 364,
   363, 361, 360, 358, 357, 355, 354, 352,
   351, 349, 348, 346, 345, 343, 342, 340,
   339, 337, 336, 335, 333, 332, 330, 329]

/-- Entries 960 to 1023 of row 1 (high range) of REF. -/
def refHigh15 : List Nat :=
  [327, 326, 325, 323, 322, 321, 319, 318,
   316, 315, 314, 312, 311, 310, 308, 307,
   306, 304, 303, 302, 301, 299, 298, 297,
   295, 294, 293, 292, 290, 289, 288, 287,
   286, 284, 283, 282, 281, 279, 278, 277,
   276, 275, 274, 272, 271, 270, 269, 268,
   267, 265, 264, 263, 262, 261, 260, 259,
   258, 257, 255, 254, 253, 252, 251, 250]

/-- row 1 (high range) of REF: R48, spec/20_memory.md section 9. -/
def refHigh : List Nat :=
  refHigh0 ++ (refHigh1 ++ (refHigh2 ++ (refHigh3 ++ (refHigh4 ++ (refHigh5 ++ (refHigh6 ++ (refHigh7 ++ (refHigh8 ++ (refHigh9 ++ (refHigh10 ++ (refHigh11 ++ (refHigh12 ++ (refHigh13 ++ (refHigh14 ++ (refHigh15)))))))))))))))

end Sys2Proof.PeriodTables
end

