-- ==== Sys2Proof/Word.lean ====
section
/-! DEFINITION. The command word and the two values the rules treat as plain numbers.

The block has one word that is a bit vector: the 8-bit command word (R34, R57). Every other
quantity has a width that is a parameter (R6) and is computed with exactly (R10), so it is a `Nat`,
or an `Int` for the signed phase; that each value fits its register is an invariant (Safety.lean;
DESIGN CHOICE, safe, log entry 9). -/

namespace Sys2Proof

/-- A command word on the port `cmd` (R34): 8 bits, bit 0 the least significant (R9). -/
abbrev CmdWord := BitVec 8

/-- `clamp(v, lo, hi)` of R10. -/
def clamp (v lo hi : Nat) : Nat :=
  if v < lo then lo else if v > hi then hi else v

/-- `absdiff(a, b) = abs(a - b)` of R10. -/
def absdiff (a b : Nat) : Nat :=
  if a ≤ b then b - a else a - b

end Sys2Proof
end

