-- ==== Sys2Proof/Syntax.lean ====
section
/-! DEFINITION. The operations of the command port (R2, R58), one constructor of `Instr` per row of
spec/opcode_table.json, and what a command word can be: an operation or a reserved word (R60). -/

namespace Sys2Proof

/-- The switch index `s` of `SWCHK s` (R28, R61): 0 is the range-override switch, 1 the
waveform-shape switch. -/
inductive SwitchIndex where
  /-- `s = 0`: the range-override switch. -/
  | rangeOverride
  /-- `s = 1`: the waveform-shape switch. -/
  | waveformShape
  deriving DecidableEq, Repr

/-- The index as the number the spec writes: 0 or 1 (R61). -/
def SwitchIndex.number : SwitchIndex → Nat
  | .rangeOverride => 0
  | .waveformShape => 1

/-- The seven operations of R58. -/
inductive Instr where
  /-- `NOP`, 0x00 (R102). -/
  | nop
  /-- `TICK`, 0x10 (R96). -/
  | tick
  /-- `RSTPH`, 0x20 (R100). -/
  | rstph
  /-- `SWCHK s`, 0x30 and 0x31 (R65). -/
  | swchk (s : SwitchIndex)
  /-- `RAUTO`, 0x40 (R73). -/
  | rauto
  /-- `PCALC`, 0x50 (R89). -/
  | pcalc
  /-- `COMMIT`, 0x60 (R90). -/
  | commit
  deriving DecidableEq, Repr

/-- What a command word stands for (R60: a total decoder has a constructor for the reserved words). -/
inductive Command where
  /-- A word of the opcode map R58. -/
  | operation (i : Instr)
  /-- One of the 248 reserved words of R60; the word itself is kept, so nothing of it is lost. -/
  | reserved (w : CmdWord)
  deriving DecidableEq, Repr

end Sys2Proof
end

