-- ==== Sys2Proof/Config.lean ====
section
/-! DEFINITION. The configuration record of R6, its derived parameters, the two worked configurations
REF and TOY, and the one free value of the model. -/

namespace Sys2Proof

/-- The configuration of one debounced switch (R6, R64): `SW_INVERT[s]`, `SW_ENG_BOUND[s]` and
`SW_DIS_BOUND[s]`. -/
structure SwitchConfig where
  /-- `SW_INVERT[s]`: with it the raw level 0 is the "on" position. -/
  invert : Bool
  /-- `SW_ENG_BOUND[s]`: the engage event is bound to its action. -/
  engBound : Bool
  /-- `SW_DIS_BOUND[s]`: the disengage event is bound to its action. -/
  disBound : Bool
  deriving DecidableEq, Repr

/-- The configuration record of R6. Widths and sizes are counts; `ptabLow` and `ptabHigh` are the two
rows of the period ROM. The parameters R6 derives from others are functions below. -/
structure Config where
  /-- `WORK_BITS`: the width of the unsigned working integer. -/
  workBits : Nat
  /-- `ADC_BITS`: the width of a knob reading. -/
  adcBits : Nat
  /-- `OUT_RES`: the full-scale sample value. -/
  outRes : Nat
  /-- `SCALE_SHIFT`: the fixed-point headroom of the phase. -/
  scaleShift : Nat
  /-- `PHASE_BITS`: the width of the signed phase register. -/
  phaseBits : Nat
  /-- `TICK_INTERVAL`: microseconds between two `TICK`s, used only as a divisor. -/
  tickInterval : Nat
  /-- `LOW_SLOWEST`, microseconds. -/
  lowSlowest : Nat
  /-- `LOW_FASTEST`, microseconds. -/
  lowFastest : Nat
  /-- `HIGH_SLOWEST`, microseconds. -/
  highSlowest : Nat
  /-- `HIGH_FASTEST`, microseconds. -/
  highFastest : Nat
  /-- `MIN_CLOCK_PERIOD`, microseconds. -/
  minClockPeriod : Nat
  /-- `N_RATIO`: the maximum clock ratio. -/
  nRatio : Nat
  /-- `EDGE_DEADZONE`: knob readings this close to an extreme snap to it. -/
  edgeDeadzone : Nat
  /-- `KNOB_HYST`: a knob must move by more than this to count as changed. -/
  knobHyst : Nat
  /-- `DEBOUNCE_MS`: the settling window, milliseconds. -/
  debounceMs : Nat
  /-- `MS_BITS`: the width of the millisecond clock input. -/
  msBits : Nat
  /-- The configuration of switch 0. -/
  sw0 : SwitchConfig
  /-- The configuration of switch 1. -/
  sw1 : SwitchConfig
  /-- `PTAB[0]`: the low range's row of the period ROM, microseconds. -/
  ptabLow : List Nat
  /-- `PTAB[1]`: the high range's row of the period ROM, microseconds. -/
  ptabHigh : List Nat
  deriving DecidableEq, Repr

/-- `MAXW = 2^W - 1`. -/
def Config.maxW (c : Config) : Nat := 2 ^ c.workBits - 1

/-- `ADC_MAX = 2^ADC_BITS - 1`. -/
def Config.adcMax (c : Config) : Nat := 2 ^ c.adcBits - 1

/-- `S = scaledResolution = OUT_RES << SCALE_SHIFT`. -/
def Config.scaled (c : Config) : Nat := c.outRes * 2 ^ c.scaleShift

/-- `OUT_BITS`: the least n with `2^n > OUT_RES` (DEDUCED, safe, log entry 12). -/
def Config.outBits (c : Config) : Nat := Nat.log2 c.outRes + 1

/-- `CROSSOVER = (LOW_FASTEST - HIGH_SLOWEST) / 2`. -/
def Config.crossover (c : Config) : Nat := (c.lowFastest - c.highSlowest) / 2

/-- `DUTY_MIN = ADC_MAX / 10`. -/
def Config.dutyMin (c : Config) : Nat := c.adcMax / 10

/-- `DUTY_MAX = 9 * ADC_MAX / 10`. -/
def Config.dutyMax (c : Config) : Nat := 9 * c.adcMax / 10

/-- `RESET_DUTY = (DUTY_MIN + DUTY_MAX) / 2`. -/
def Config.resetDuty (c : Config) : Nat := (c.dutyMin + c.dutyMax) / 2

/-- `T = 2*N - 1`: the number of entries of the clock-ratio ROM. -/
def Config.tableSize (c : Config) : Nat := 2 * c.nRatio - 1

/-- The configuration of switch `i`. -/
def Config.switch (c : Config) : SwitchIndex → SwitchConfig
  | .rangeOverride => c.sw0
  | .waveformShape => c.sw1

/-- The row of `PTAB` for a range: row 0 for the low range, row 1 for the high range (R44, R47). -/
def Config.ptabRow (c : Config) (high : Bool) : List Nat :=
  if high then c.ptabHigh else c.ptabLow

/-- `slowest_r` of R47. -/
def Config.slowest (c : Config) (high : Bool) : Nat :=
  if high then c.highSlowest else c.lowSlowest

/-- `fastest_r` of R47. -/
def Config.fastest (c : Config) (high : Bool) : Nat :=
  if high then c.highFastest else c.lowFastest

/-- FREE VALUE (log entry 5): what a read of `PTAB` outside its entries gives. R46: "No rule can
present an out-of-range index, so no out-of-range behaviour is defined." A state that no run reaches
can present one, and this constant has no value that a proof can see. -/
opaque Config.romOutside : Bool → Nat → Nat

/-- A switch that is not inverted and has both events bound, as in REF and TOY. -/
def SwitchConfig.plain : SwitchConfig :=
  { invert := false, engBound := true, disBound := true }

/-- The configuration REF of R6. -/
def Config.ref : Config :=
  { workBits := 32, adcBits := 10, outRes := 4095, scaleShift := 16, phaseBits := 32,
    tickInterval := 10, lowSlowest := 20000000, lowFastest := 200000, highSlowest := 20000,
    highFastest := 250, minClockPeriod := 1000, nRatio := 9, edgeDeadzone := 4, knobHyst := 2,
    debounceMs := 50, msBits := 32, sw0 := SwitchConfig.plain, sw1 := SwitchConfig.plain,
    ptabLow := PeriodTables.refLow, ptabHigh := PeriodTables.refHigh }

/-- The configuration TOY of R6, with the tables of R48. -/
def Config.toy : Config :=
  { workBits := 16, adcBits := 4, outRes := 15, scaleShift := 4, phaseBits := 16,
    tickInterval := 1, lowSlowest := 20000, lowFastest := 2000, highSlowest := 200,
    highFastest := 20, minClockPeriod := 10, nRatio := 3, edgeDeadzone := 1, knobHyst := 1,
    debounceMs := 50, msBits := 32, sw0 := SwitchConfig.plain, sw1 := SwitchConfig.plain,
    ptabLow := [20000, 17154, 14713, 12619, 10823, 9283, 7962, 6829,
                5857, 5024, 4309, 3696, 3170, 2719, 2332, 2000],
    ptabHigh := [200, 172, 147, 126, 108, 93, 80, 68, 59, 50, 43, 37, 32, 27, 23, 20] }

end Sys2Proof
end

