-- ==== Sys2Proof/WellFormed.lean ====
section
/-! DEFINITION. The configuration check of R7, one definition per item, and the check of a command.

R104 and R118 item 5: the configuration check is the only place a model refuses anything, and it does
so before the first step (`State.boot` in Machine/State.lean), not at run time. -/

namespace Sys2Proof

/-- No entry of the row is smaller than the one after it (R47 item 3). -/
def nonIncreasing : List Nat → Bool
  | [] => true
  | a :: rest => (rest.head?.all fun b => decide (b ≤ a)) && nonIncreasing rest

/-- One row of `PTAB` meets R47: one entry per knob value, the ends pinned, non-increasing, every
entry at least 1. -/
def Config.rowLegal (c : Config) (high : Bool) : Bool :=
  decide ((c.ptabRow high).length = c.adcMax + 1) &&
  decide ((c.ptabRow high)[0]? = some (c.slowest high)) &&
  decide ((c.ptabRow high)[c.adcMax]? = some (c.fastest high)) &&
  nonIncreasing (c.ptabRow high) &&
  (c.ptabRow high).all fun v => decide (1 ≤ v)

/-- R7 item 1: `OUT_RES >= 1` and `S <= MAXW`. -/
def Config.item1 (c : Config) : Bool := decide (1 ≤ c.outRes) && decide (c.scaled ≤ c.maxW)

/-- R7 item 2: `2 * S < 2^(PHASE_BITS - 1)`. -/
def Config.item2 (c : Config) : Bool := decide (2 * c.scaled < 2 ^ (c.phaseBits - 1))

/-- R7 item 3: `ADC_BITS >= 4`. -/
def Config.item3 (c : Config) : Bool := decide (4 ≤ c.adcBits)

/-- R7 item 4: `N_RATIO >= 1` and `ADC_MAX >= T`. -/
def Config.item4 (c : Config) : Bool := decide (1 ≤ c.nRatio) && decide (c.tableSize ≤ c.adcMax)

/-- R7 item 5: `TICK_INTERVAL >= 1`. -/
def Config.item5 (c : Config) : Bool := decide (1 ≤ c.tickInterval)

/-- R7 item 6: the period constants are ordered, positive and `WORK_BITS` wide. -/
def Config.item6 (c : Config) : Bool :=
  decide (1 ≤ c.highFastest) && decide (c.highFastest ≤ c.highSlowest) &&
  decide (c.highSlowest ≤ c.lowFastest) && decide (c.lowFastest ≤ c.lowSlowest) &&
  decide (c.lowSlowest ≤ c.maxW)

/-- R7 item 7: `EDGE_DEADZONE >= KNOB_HYST` and `2 * EDGE_DEADZONE < ADC_MAX`. -/
def Config.item7 (c : Config) : Bool :=
  decide (c.knobHyst ≤ c.edgeDeadzone) && decide (2 * c.edgeDeadzone < c.adcMax)

/-- R7 item 8: both rows of `PTAB` meet R47. -/
def Config.item8 (c : Config) : Bool := c.rowLegal false && c.rowLegal true

/-- R7 item 9: `DEBOUNCE_MS >= 1` and `DEBOUNCE_MS < 2^(MS_BITS - 1)`. -/
def Config.item9 (c : Config) : Bool :=
  decide (1 ≤ c.debounceMs) && decide (c.debounceMs < 2 ^ (c.msBits - 1))

/-- R7 item 10: `floor(LOW_SLOWEST / ADC_MAX) * DUTY_MAX <= MAXW`. -/
def Config.item10 (c : Config) : Bool := decide (c.lowSlowest / c.adcMax * c.dutyMax ≤ c.maxW)

/-- R7 item 11: the middle of the knob lies in the unity band of the coefficient index. -/
def Config.item11 (c : Config) : Bool :=
  decide ((c.nRatio - 1) * (c.adcMax / c.tableSize) ≤ (c.adcMax + 1) / 2) &&
  decide ((c.adcMax + 1) / 2 ≤ c.nRatio * (c.adcMax / c.tableSize))

/-- The configuration meets every constraint of R7. -/
def Config.legal (c : Config) : Bool :=
  c.item1 && c.item2 && c.item3 && c.item4 && c.item5 && c.item6 && c.item7 && c.item8 && c.item9 &&
  c.item10 && c.item11

/-- The word is one of the eight defined words of the opcode map R58. -/
def CmdWord.defined (w : CmdWord) : Bool :=
  [0x00#8, 0x10#8, 0x20#8, 0x30#8, 0x31#8, 0x40#8, 0x50#8, 0x60#8].contains w

/-- A command is well-formed: a reserved one carries a word that the opcode map does not define. An
operation's only operand is the switch index, whose type holds the two legal values and no other. -/
def Command.wellFormed : Command → Bool
  | .operation _ => true
  | .reserved w => !CmdWord.defined w

end Sys2Proof
end

