-- ==== Sys2Proof/Decode.lean ====
section
/-! DEFINITION. The decoder of R57, R58, R60 and R61, total on every word, and the encoder written
from the same opcode map. -/

namespace Sys2Proof

/-- `cmd[7:4]`, the operation code (R57). -/
def CmdWord.op (w : CmdWord) : BitVec 4 := w.extractLsb' 4 4

/-- `cmd[3:1]`, which must be zero (R57). -/
def CmdWord.z (w : CmdWord) : BitVec 3 := w.extractLsb' 1 3

/-- `cmd[0]`, the switch select (R57, R61). -/
def CmdWord.s (w : CmdWord) : Bool := w.getLsbD 0

/-- The switch index a select bit names (R61): 0 = range override, 1 = waveform shape. -/
def SwitchIndex.ofBit : Bool → SwitchIndex
  | false => .rangeOverride
  | true => .waveformShape

/-- The operation an operation code and a select bit name once the must-be-zero field is zero (R58):
`SWCHK` alone may have the select bit set. -/
def decodeFields (op : BitVec 4) (s : Bool) : Option Instr :=
  match op.toNat, s with
  | 0, false => some .nop
  | 1, false => some .tick
  | 2, false => some .rstph
  | 3, b => some (.swchk (SwitchIndex.ofBit b))
  | 4, false => some .rauto
  | 5, false => some .pcalc
  | 6, false => some .commit
  | _, _ => none

/-- The decoder: R58 for the defined words, R60 for every other word. -/
def decode (w : CmdWord) : Command :=
  if w.z = 0#3 then
    match decodeFields w.op w.s with
    | some i => .operation i
    | none => .reserved w
  else .reserved w

/-- The command word of an operation (the opcode map of R58, column `cmd`). -/
def Instr.word : Instr → CmdWord
  | .nop => 0b00000000#8
  | .tick => 0b00010000#8
  | .rstph => 0b00100000#8
  | .swchk .rangeOverride => 0b00110000#8
  | .swchk .waveformShape => 0b00110001#8
  | .rauto => 0b01000000#8
  | .pcalc => 0b01010000#8
  | .commit => 0b01100000#8

/-- The encoder: the word of a command. -/
def encode : Command → CmdWord
  | .operation i => i.word
  | .reserved w => w

/-- A row of the opcode map as R58 writes it: a word `w` selects the row when
`w & mask = match`. -/
structure OpcodeRow where
  /-- The row's match word. -/
  pattern : CmdWord
  /-- The row's mask. -/
  mask : CmdWord
  deriving DecidableEq, Repr

/-- The word selects the row (R58). -/
def OpcodeRow.selects (r : OpcodeRow) (w : CmdWord) : Bool := w &&& r.mask == r.pattern

/-- The row of an operation in the match/mask list of R58. -/
def Instr.row : Instr → OpcodeRow
  | .nop => { pattern := 0x00#8, mask := 0xFF#8 }
  | .tick => { pattern := 0x10#8, mask := 0xFF#8 }
  | .rstph => { pattern := 0x20#8, mask := 0xFF#8 }
  | .swchk _ => { pattern := 0x30#8, mask := 0xFE#8 }
  | .rauto => { pattern := 0x40#8, mask := 0xFF#8 }
  | .pcalc => { pattern := 0x50#8, mask := 0xFF#8 }
  | .commit => { pattern := 0x60#8, mask := 0xFF#8 }

/-- The command word that a row's bits stand for: every bit above the row's is 0, and the port has
8 bits (R57). -/
def tableWord (nbits w : Nat) : CmdWord := BitVec.ofNat 8 (w % 2 ^ nbits)

/-- The operation the decoder reads from a word of spec/opcode_table.json, none for a reserved
word. -/
def decodeTableWord (nbits w : Nat) : Option Instr :=
  match decode (tableWord nbits w) with
  | .operation i => some i
  | .reserved _ => none

end Sys2Proof
end

