-- ==== Sys2Proof/Machine/PeriodMath.lean ====
section
/-! DEFINITION. The pure arithmetic of the block, over the configuration alone: the ROM reads (R46,
R49), the overflow-safe multiply-divide (R79), knob conditioning (R80, R81), the two period modes
(R84 to R87), the increments (R88), the sample functions (R97, R98) and the settling time (R65).

Products and sums are exact and `/` is floor division (R10). Every divisor is at least 1 in a legal
configuration (R7); for an illegal one nothing is claimed (DESIGN CHOICE, safe, log entry 13). -/

namespace Sys2Proof.Machine

/-- An increment pair (R16, R19): element 0 is the rising half's step, element 1 the falling half's. -/
structure Increments where
  /-- Element 0, the step of the rising half. -/
  rise : Nat
  /-- Element 1, the step of the falling half. -/
  fall : Nat
  deriving DecidableEq, Repr

/-- `PTAB[r][k]` (R46). An index outside the row, which no run presents, reads as a free value. -/
def periodRom (c : Config) (high : Bool) (k : Nat) : Nat :=
  match (c.ptabRow high)[k]? with
  | some v => v
  | none => Config.romOutside high k

/-- `COEF[i] = abs(i - (N_RATIO - 1)) + 1` (R49). -/
def coefRom (c : Config) (i : Nat) : Nat := absdiff i (c.nRatio - 1) + 1

/-- `safe_muldiv(a, b, d)` (R79): divide first where the product would not fit `WORK_BITS`. -/
def safeMuldiv (c : Config) (a b d : Nat) : Nat :=
  if b = 0 then 0
  else if a > c.maxW / b then (a / d * b) % 2 ^ c.workBits
  else a * b / d

/-- `snap(k)` (R80): the dead-zone at the two ends of a knob. -/
def snap (c : Config) (k : Nat) : Nat :=
  if k ≤ c.edgeDeadzone then 0
  else if k ≥ c.adcMax - c.edgeDeadzone then c.adcMax
  else k

/-- `accept(k, last)` (R81): the hysteresis on a conditioned knob value, passed over while
`pc_force` is 1. -/
def acceptKnob (c : Config) (force : Bool) (k last : Nat) : Nat :=
  if force = true ∨ absdiff k last > c.knobHyst then k else last

/-- The coefficient index of R86, clamped to the last entry. -/
def coefIndex (c : Config) (f : Nat) : Nat :=
  min (c.tableSize - 1) (f / (c.adcMax / c.tableSize))

/-- `clocked_period(f, cp)` (R87): multiply in the knob's lower half, divide in its upper half, clamp
both. The product is exact. -/
def clockedPeriod (c : Config) (f cp : Nat) : Nat :=
  let co := coefRom c (coefIndex c f)
  let p := if f < (c.adcMax + 1) / 2 then cp * co else cp / co
  clamp p c.highFastest c.lowSlowest

/-- The target period of `PCALC` (R89): R87 while externally clocked, else the ROM read of R84. -/
def targetPeriod (c : Config) (ext high : Bool) (f cp : Nat) : Nat :=
  if ext then clockedPeriod c f cp else periodRom c high f

/-- The duty value of R88's duty translation: the accepted knob value clamped to
`[DUTY_MIN, DUTY_MAX]`. -/
def dutyValue (c : Config) (d : Nat) : Nat := clamp d c.dutyMin c.dutyMax

/-- One half's increment (R88): `max(1, S / max(1, half / TICK_INTERVAL))`. -/
def halfIncrement (c : Config) (half : Nat) : Nat :=
  max 1 (c.scaled / max 1 (half / c.tickInterval))

/-- `inc_pair(per, dv)` (R88). -/
def incPair (c : Config) (per dv : Nat) : Increments :=
  let dp := safeMuldiv c per dv c.adcMax
  { rise := halfIncrement c dp, fall := halfIncrement c (per - dp) }

/-- `tri_sample(p)` (R97): descale and clamp to `[0, OUT_RES]`. The clamp's lower bound acts only on
a phase below 0, which no state of R32 holds. -/
def triSample (c : Config) (p : Int) : Nat :=
  clamp (p / 2 ^ c.scaleShift).toNat 0 c.outRes

/-- `pulse_level(r)` (R98). -/
def pulseLevel (c : Config) (r : Bool) : Nat := if r then c.outRes else 0

/-- `(now - lastChange) mod 2^MS_BITS` (R65, R70). -/
def elapsedMs (c : Config) (now lastChange : Nat) : Nat :=
  (((now : Int) - (lastChange : Int)) % 2 ^ c.msBits).toNat

end Sys2Proof.Machine
end

