-- ==== Sys2Proof/Machine/State.lean ====
section
/-! DEFINITION. The state of the machine (R14 to R31) and its reset (R33, R116).

The block's own elements are the rows S0 to S24 of R30. Beside them `State` holds what lets one
deterministic step stand for the three agents of R5: the output event sequence (R12), the levels on
the input ports (R34 to R40), the poll agent's position (R24), the agents' actions still to come, and
the configuration (R6). Log entries 1 to 4 say so. -/

namespace Sys2Proof.Machine

/-- One `SwitchState` record (R28). -/
structure SwitchState where
  /-- The debounced raw level, not polarity-adjusted. -/
  stable : Bool
  /-- The raw level at the last `SWCHK` of this switch. -/
  lastRaw : Bool
  /-- `now_ms` at the last `SWCHK` of this switch that saw the raw level differ from `lastRaw`. -/
  lastChange : Nat
  deriving DecidableEq, Repr

/-- An output event (R12). -/
inductive Event where
  /-- `SampleWrite(v)`: one per `write(v)` (R99). -/
  | sampleWrite (v : Nat)
  /-- `RangeNotify(h)`: one per change of `highRange` (R71). -/
  | rangeNotify (h : Bool)
  deriving DecidableEq, Repr

/-- The levels the environment drives on the input ports (R35 to R40). The operations see them only
through the sampling functions of Machine/Operands.lean. -/
structure Ports where
  /-- `sw_raw`: 2 bits, bit s the raw level of switch s (R35). -/
  swRaw : BitVec 2
  /-- `now_ms` (R40). -/
  nowMs : Nat
  /-- `clk_active` (R37). -/
  clkActive : Bool
  /-- `clk_period`, microseconds (R37). -/
  clkPeriod : Nat
  /-- `knob_freq` (R36). -/
  knobFreq : Nat
  /-- `knob_duty` (R36). -/
  knobDuty : Nat
  deriving DecidableEq, Repr

/-- The poll agent's position `pstep` in the `POLL` expansion (R24): 0 to 4. -/
inductive PollPos where
  /-- `pstep = 0`: the next micro-operation is `SWCHK 0`. -/
  | swchk0
  /-- `pstep = 1`: `SWCHK 1`. -/
  | swchk1
  /-- `pstep = 2`: `RAUTO`. -/
  | rauto
  /-- `pstep = 3`: `PCALC`. -/
  | pcalc
  /-- `pstep = 4`: `COMMIT`. -/
  | commit
  deriving DecidableEq, Repr

/-- One action of an agent (R5). A list of them is one interleaving of the agents. -/
inductive Arrival where
  /-- The tick context issues `TICK`. -/
  | tick
  /-- The poll context issues the micro-operation that its `pstep` names. -/
  | poll
  /-- A word is presented on the port `cmd` as it stands (R34): `RSTPH` and `NOP` between two `POLL`
  sequences, an operation out of the `POLL` order, a reserved word. It moves no `pstep` (DESIGN CHOICE,
  safe, log entry 8). -/
  | command (w : CmdWord)
  /-- The environment drives new levels on the input ports. -/
  | drive (p : Ports)
  /-- Power-up, or the external reset signal an integrator may provide (R116). -/
  | reset
  deriving DecidableEq, Repr

/-- The reasons a step stops with a fault: NONE. R104: "its fault type for the block is empty". -/
inductive Fault where
  deriving DecidableEq, Repr

/-- The reasons for a refusal. -/
inductive Refusal where
  /-- No meaning for the instruction. Raised by no arm of `exec`: every operation has its meaning.
  Safe. -/
  | notModelled (mnemonic : String)
  /-- The configuration fails the check of R7. Raised by `State.boot`, before the first step, and by
  no step (R104, R118 item 5). Safe. -/
  | illegalConfiguration
  deriving DecidableEq, Repr

/-- The machine. Numbers in parentheses are the reference numbers of R30. -/
structure State where
  /-- (S0) The scaled accumulator, signed, `PHASE_BITS` wide (R15). -/
  phase : Int
  /-- (S1) 1 = the rising half (R21). -/
  rising : Bool
  /-- (S2, S3) The committed increment pair (R16). -/
  increment : Increments
  /-- (S4, S5) The staged increment pair (R19). -/
  stageInc : Increments
  /-- (S6) 1 = a computed pair waits to be committed (R19). -/
  stageValid : Bool
  /-- (S7) The last computed target period, microseconds (R17). -/
  period : Nat
  /-- (S8) The last clamped duty value (R18). -/
  dutyCycle : Nat
  /-- (S9) 0 = low range, 1 = high range (R22). -/
  highRange : Bool
  /-- (S10) 1 = triangle, 0 = pulse (R23). -/
  triangleSelected : Bool
  /-- (S11) The sample output latch (R29). -/
  sampleQ : Nat
  /-- (S12) The externally-clocked predicate as `RAUTO` last evaluated it (R25). -/
  rsPrevClocked : Bool
  /-- (S13) The frequency-knob value of the last recomputation (R26). -/
  lastFreq : Nat
  /-- (S14) The duty-knob value, before the duty clamp, of the last recomputation (R26). -/
  lastDuty : Nat
  /-- (S15) `highRange` at the last recomputation (R26). -/
  lastRange : Bool
  /-- (S16) The externally-clocked predicate at the last recomputation (R26). -/
  lastClocked : Bool
  /-- (S17) `clk_period` at the last recomputation made while externally clocked (R26). -/
  lastClkper : Nat
  /-- (S18) 1 = the next `PCALC` recomputes whatever the inputs are (R27). -/
  pcForce : Bool
  /-- (S19, S21, S23) The debouncer of switch 0 (R28). -/
  sw0 : SwitchState
  /-- (S20, S22, S24) The debouncer of switch 1 (R28). -/
  sw1 : SwitchState
  /-- The output event sequence since reset, oldest first (R11, R12): an output kept for observers, which
  no operation reads (DESIGN CHOICE, safe, log entry 7). -/
  events : List Event
  /-- The levels on the input ports (R35 to R40). -/
  ports : Ports
  /-- The poll agent's position (R24). -/
  pstep : PollPos
  /-- The agents' actions still to come, next one first: the model's own field (DESIGN CHOICE, safe, log
  entry 2). -/
  arrivals : List Arrival
  /-- The configuration (R6), which no operation writes (R8). -/
  cfg : Config
  deriving DecidableEq, Repr

/-- The levels on the input ports before the environment has driven any: all 0 (DESIGN CHOICE, log
entry 3; unsafe). -/
def Ports.idle : Ports :=
  { swRaw := 0#2, nowMs := 0, clkActive := false, clkPeriod := 0, knobFreq := 0, knobDuty := 0 }

/-- The reset record of a switch (R33): disengaged, whatever its polarity. -/
def SwitchState.reset (k : SwitchConfig) : SwitchState :=
  { stable := k.invert, lastRaw := k.invert, lastChange := 0 }

/-- The state after reset of the block configured by `c`: every value is R33's. -/
def State.resetOf (c : Config) : State :=
  { phase := 0, rising := true,
    increment := incPair c c.lowSlowest c.resetDuty, stageInc := incPair c c.lowSlowest c.resetDuty,
    stageValid := false, period := c.lowSlowest, dutyCycle := c.resetDuty,
    highRange := false, triangleSelected := false, sampleQ := c.outRes, rsPrevClocked := false,
    lastFreq := 0, lastDuty := c.resetDuty, lastRange := false, lastClocked := false,
    lastClkper := 0, pcForce := true,
    sw0 := SwitchState.reset c.sw0, sw1 := SwitchState.reset c.sw1,
    events := [], ports := Ports.idle, pstep := .swchk0, arrivals := [], cfg := c }

/-- The machine right after reset, in the configuration REF (DESIGN CHOICE of the configuration, log
entry 1; every value is R33's). -/
def State.reset : State := State.resetOf Config.ref

/-- Building the block (R7, R104): a configuration that fails the check is refused before the first
step. -/
def State.boot (c : Config) : Host.Outcome State Fault Refusal :=
  if c.legal then .next (State.resetOf c) else .refused .illegalConfiguration

end Sys2Proof.Machine
end

