-- ==== Sys2Proof/Machine/Operands.lean ====
section
/-! DEFINITION. The operands of the operations: the input ports as an operation samples them (R11,
R34 to R40), the switch record its index selects (R61), and the output ports (R41).

A port of n bits carries n bits, so a sampling is reduced modulo `2^n`; a level of `Ports` that is
already that narrow is sampled as it stands (log entry 3). -/

namespace Sys2Proof.Machine

/-- `in.sw_raw[s]` (R35): bit `s`, counted from the least significant (R9; DEDUCED, safe, log entry
6). -/
def State.inSwRaw (s : State) (i : SwitchIndex) : Bool := s.ports.swRaw.getLsbD i.number

/-- `in.now_ms`, `MS_BITS` bits (R40). -/
def State.inNowMs (s : State) : Nat := s.ports.nowMs % 2 ^ s.cfg.msBits

/-- `in.clk_active` (R37). -/
def State.inClkActive (s : State) : Bool := s.ports.clkActive

/-- `in.clk_period`, `WORK_BITS` bits (R37). -/
def State.inClkPeriod (s : State) : Nat := s.ports.clkPeriod % 2 ^ s.cfg.workBits

/-- `in.knob_freq`, `ADC_BITS` bits (R36). -/
def State.inKnobFreq (s : State) : Nat := s.ports.knobFreq % 2 ^ s.cfg.adcBits

/-- `in.knob_duty`, `ADC_BITS` bits (R36). -/
def State.inKnobDuty (s : State) : Nat := s.ports.knobDuty % 2 ^ s.cfg.adcBits

/-- `ext(in)`, externally clocked (R13): `in.clk_active && in.clk_period > MIN_CLOCK_PERIOD`. -/
def State.ext (s : State) : Bool := s.inClkActive && decide (s.inClkPeriod > s.cfg.minClockPeriod)

/-- `SW[i]` (R28). -/
def State.sw (s : State) : SwitchIndex → SwitchState
  | .rangeOverride => s.sw0
  | .waveformShape => s.sw1

/-- The level output `sample_q` (R41), driven at all times from the latch. -/
def State.sampleOut (s : State) : Nat := s.sampleQ

/-- The level output `range_ind` (R41), always equal to `highRange`. -/
def State.rangeInd (s : State) : Bool := s.highRange

end Sys2Proof.Machine
end

