-- ==== Sys2Proof/Machine/Flags.lean ====
section
/-! DEFINITION. The one-bit conditions the operations compute from state and ports. The block has no
condition codes (R21 and its section); these are the predicates the rules name. -/

namespace Sys2Proof.Machine

/-- A raw level is the "on" position of a switch: `raw ^ SW_INVERT[s]` (R65, corner case (f)). -/
def levelOn (k : SwitchConfig) (raw : Bool) : Bool := raw ^^ k.invert

/-- `sw_on(s) = SW[s].stable ^ SW_INVERT[s]` (R28): the polarity-adjusted position. -/
def State.swOn (s : State) (i : SwitchIndex) : Bool := levelOn (s.cfg.switch i) (s.sw i).stable

/-- The accepted frequency knob `f` of `PCALC` (R89, R81). -/
def State.acceptedFreq (s : State) : Nat :=
  acceptKnob s.cfg s.pcForce (snap s.cfg s.inKnobFreq) s.lastFreq

/-- The accepted duty knob `d` of `PCALC` (R89, R81). -/
def State.acceptedDuty (s : State) : Nat :=
  acceptKnob s.cfg s.pcForce (snap s.cfg s.inKnobDuty) s.lastDuty

/-- `changed` (R83). -/
def State.changed (s : State) : Bool :=
  s.pcForce ||
  decide (s.acceptedFreq ≠ s.lastFreq) ||
  decide (s.acceptedDuty ≠ s.lastDuty) ||
  (s.highRange != s.lastRange) ||
  (s.ext != s.lastClocked) ||
  (s.ext && decide (s.inClkPeriod ≠ s.lastClkper))

end Sys2Proof.Machine
end

