-- ==== Sys2Proof/Machine/Ops.lean ====
section
/-! DEFINITION. The named operations over the state that the meanings share: emitting an event (R11),
the latch (R99), the internal actions `select_range`, `RREQ` and `SHAPE` (R71, R72, R101), the
dispatch of the two switch events (R64, R67), the debouncer (R65), the reflection of the phase (R96),
the write of a recomputation (R89) and the commit (R90).

There is no operation for taking an exception and none for returning from one: R104, "no operation,
in any state, with any input, faults, traps, halts or reports an error", and R109, R110: pre-emption
by the tick saves and changes nothing and has no return operation. -/

namespace Sys2Proof.Machine

/-- `emit E` (R11): append to the output event sequence. -/
def State.emit (s : State) (e : Event) : State := { s with events := s.events ++ [e] }

/-- `write(v)` (R99): the latch and its event. -/
def State.write (s : State) (v : Nat) : State :=
  ({ s with sampleQ := v }).emit (.sampleWrite v)

/-- Set the phase and the direction, in one piece (R50 item 3). -/
def State.setWave (s : State) (p : Int) (r : Bool) : State := { s with phase := p, rising := r }

/-- Write one switch record (R28). -/
def State.setSw (s : State) (i : SwitchIndex) (w : SwitchState) : State :=
  match i with
  | .rangeOverride => { s with sw0 := w }
  | .waveformShape => { s with sw1 := w }

/-- `select_range(h)` (R71): the only writer of `highRange`. -/
def State.selectRange (s : State) (h : Bool) : State :=
  if s.highRange = h then s else ({ s with highRange := h }).emit (.rangeNotify h)

/-- `RREQ(h)` (R72): a manual range request, dropped while externally clocked. -/
def State.rreq (s : State) (h : Bool) : State := if s.ext then s else s.selectRange h

/-- `SHAPE(t)` (R101): writes nothing to the latch and emits nothing. -/
def State.shape (s : State) (t : Bool) : State := { s with triangleSelected := t }

/-- `engage_action(i)` for `on = true`, `disengage_action(i)` for `on = false` (R67). -/
def State.switchAction (s : State) (i : SwitchIndex) (on : Bool) : State :=
  match i with
  | .rangeOverride => s.rreq on
  | .waveformShape => s.shape on

/-- The event of switch `i` is bound (R64): the engage event for `on = true`, else the disengage
event. -/
def State.eventBound (s : State) (i : SwitchIndex) (on : Bool) : Bool :=
  if on then (s.cfg.switch i).engBound else (s.cfg.switch i).disBound

/-- Dispatch one event (R64): the fixed action if its handle is bound, nothing if it is empty. -/
def State.fireEvent (s : State) (i : SwitchIndex) (on : Bool) : State :=
  if s.eventBound i on then s.switchAction i on else s

/-- The settling half of R65: the timer restarts when the raw level differs from the last one. -/
def settle (w : SwitchState) (raw : Bool) (now : Nat) : SwitchState :=
  if raw = w.lastRaw then w else { w with lastRaw := raw, lastChange := now }

/-- The acceptance test of R65, on the settled record. -/
def accepts (c : Config) (w : SwitchState) (raw : Bool) (now : Nat) : Bool :=
  decide (elapsedMs c now w.lastChange ≥ c.debounceMs) && (raw != w.stable)

/-- `SWCHK i` (R65) on the sampled raw level and time. -/
def State.checkSwitch (s : State) (i : SwitchIndex) (raw : Bool) (now : Nat) : State :=
  let w := settle (s.sw i) raw now
  if accepts s.cfg w raw now then
    (s.setSw i { w with stable := raw }).fireEvent i (levelOn (s.cfg.switch i) raw)
  else s.setSw i w

/-- A phase and a direction, as `TICK` carries them from one reflection test to the next. -/
structure Wave where
  /-- The signed intermediate phase `p` of R96. -/
  p : Int
  /-- The direction. -/
  rising : Bool
  deriving DecidableEq, Repr

/-- The phase before the two tests (R96). -/
def State.stepped (s : State) : Int :=
  if s.rising then s.phase + s.increment.rise else s.phase - s.increment.fall

/-- The top reflection (R96): `p >= S` folds `p` back and turns the direction to falling. -/
def reflectTop (c : Config) (w : Wave) : Wave :=
  if w.p ≥ c.scaled then { p := c.scaled - (w.p - c.scaled), rising := false } else w

/-- The bottom reflection (R96), tested on the value the first left: `p <= 0` turns to rising. -/
def reflectBottom (w : Wave) : Wave :=
  if w.p ≤ 0 then { p := -w.p, rising := true } else w

/-- The phase and direction `TICK` ends with (R96): the two tests, one after the other. -/
def State.advance (s : State) : Wave :=
  reflectBottom (reflectTop s.cfg { p := s.stepped, rising := s.rising })

/-- The pulse write of R98: the level is written exactly when the operation changed `rising`. -/
def State.writeOnTurn (s : State) (before : Bool) : State :=
  if s.rising = before then s else s.write (pulseLevel s.cfg s.rising)

/-- The write of a recomputation (R89): the staged pair, the outputs for an observer and the
last-observed copies, from the accepted knobs, the clock predicate and the clock period. -/
def State.recompute (s : State) (f d : Nat) (e : Bool) (cp : Nat) : State :=
  let per := targetPeriod s.cfg e s.highRange f cp
  let dv := dutyValue s.cfg d
  { s with
    stageInc := incPair s.cfg per dv, stageValid := true, period := per, dutyCycle := dv,
    lastFreq := f, lastDuty := d, lastRange := s.highRange, lastClocked := e,
    lastClkper := if e then cp else s.lastClkper, pcForce := false }

/-- The copy of the staged pair into the shared pair, both elements at once (R90). -/
def State.publish (s : State) : State := { s with increment := s.stageInc, stageValid := false }

end Sys2Proof.Machine
end

