-- ==== Sys2Proof/Machine/Agents.lean ====
section
/-! DEFINITION. The agents of R5 as the step meets them: what an agent's action does to the agents'
own state and to the ports, and which command word it presents to the block (R34, R57). -/

namespace Sys2Proof.Machine

/-- The micro-operation a position of the `POLL` expansion names (R24, R59). -/
def PollPos.op : PollPos → Instr
  | .swchk0 => .swchk .rangeOverride
  | .swchk1 => .swchk .waveformShape
  | .rauto => .rauto
  | .pcalc => .pcalc
  | .commit => .commit

/-- Issuing a micro-operation advances the position by one, and from 4 back to 0 (R24). -/
def PollPos.succ : PollPos → PollPos
  | .swchk0 => .swchk1
  | .swchk1 => .rauto
  | .rauto => .pcalc
  | .pcalc => .commit
  | .commit => .swchk0

/-- What one agent's action makes of the machine before any operation executes, and the command word
it presents, if it presents one. The reset action is the initial condition of R116 in the same
configuration, with the ports still driven and the agents' later actions still to come. -/
def State.act (s : State) : Arrival → State × Option CmdWord
  | .tick => (s, some (Instr.word .tick))
  | .poll => ({ s with pstep := s.pstep.succ }, some s.pstep.op.word)
  | .command w => (s, some w)
  | .drive p => ({ s with ports := p }, none)
  | .reset => ({ State.resetOf s.cfg with ports := s.ports, arrivals := s.arrivals }, none)

/-- Take the agents' next action. With none to come nothing is presented, and the block holds its
state (R115: "Between commands the block holds its state and its level outputs"). -/
def State.present (s : State) : State × Option CmdWord :=
  match s.arrivals with
  | [] => (s, none)
  | a :: rest => State.act { s with arrivals := rest } a

/-- Place a command word as the agents' next action. -/
def State.placeWord (s : State) (w : CmdWord) : State :=
  { s with arrivals := .command w :: s.arrivals }

end Sys2Proof.Machine
end

