-- ==== Sys2Proof/Machine/Period.lean ====
section
/-! DEFINITION. The period calculator's operations `PCALC` and `COMMIT` (spec/42). -/

namespace Sys2Proof.Machine

/-- `PCALC` (R89): condition the knobs, detect a change (R83), and on one compute the target period
and stage the increment pair; otherwise nothing is written at all. -/
def execPcalc (s : State) : Host.Outcome State Fault Refusal :=
  .next (if s.changed then s.recompute s.acceptedFreq s.acceptedDuty s.ext s.inClkPeriod else s)

/-- `COMMIT` (R90): publish the staged pair to the tick context; nothing if none is staged. -/
def execCommit (s : State) : Host.Outcome State Fault Refusal :=
  .next (if s.stageValid then s.publish else s)

end Sys2Proof.Machine
end

