-- ==== Sys2Proof/Machine/Range.lean ====
section
/-! DEFINITION. The range selector's operation `RAUTO` (spec/41). -/

namespace Sys2Proof.Machine

/-- The range `RAUTO` selects (R73, R75), none where it selects nothing. -/
def State.autoRange (s : State) : Option Bool :=
  if s.ext then
    if s.inClkPeriod > s.cfg.crossover ∧ s.highRange = true then some false
    else if s.inClkPeriod < s.cfg.crossover ∧ s.highRange = false then some true
    else none
  else if s.rsPrevClocked then some (s.swOn .rangeOverride)
  else none

/-- `RAUTO` (R73): automatic selection while externally clocked, re-synchronisation to the manual
switch when the clock goes away (R75). -/
def execRauto (s : State) : Host.Outcome State Fault Refusal :=
  let t := match s.autoRange with
    | some h => s.selectRange h
    | none => s
  .next { t with rsPrevClocked := s.ext }

end Sys2Proof.Machine
end

