-- ==== Sys2Proof/Machine/Switch.lean ====
section
/-! DEFINITION. The debounced switch's operation `SWCHK s` (spec/40). -/

namespace Sys2Proof.Machine

/-- `SWCHK i` (R65): one poll of switch `i` on the levels sampled at this step. -/
def execSwchk (i : SwitchIndex) (s : State) : Host.Outcome State Fault Refusal :=
  .next (s.checkSwitch i (s.inSwRaw i) s.inNowMs)

end Sys2Proof.Machine
end

