-- ==== Sys2Proof/Machine/Waveform.lean ====
section
/-! DEFINITION. The waveform engine's operations: `NOP`, `TICK`, `RSTPH` (spec/43). -/

namespace Sys2Proof.Machine

/-- `NOP` (R102): no state is read or written, no port is sampled, no event is emitted. -/
def execNop (s : State) : Host.Outcome State Fault Refusal := .next s

/-- A reserved command word (R60): "The block performs no state change and emits no event for a
reserved word; it behaves exactly like `NOP`." -/
def execReserved (_ : CmdWord) (s : State) : Host.Outcome State Fault Refusal := .next s

/-- `TICK` (R96): advance and reflect the phase, then write the triangle sample every tick, or the
pulse level on a transition. -/
def execTick (s : State) : Host.Outcome State Fault Refusal :=
  let w := s.advance
  let t := s.setWave w.p w.rising
  .next (if s.triangleSelected then t.write (triSample s.cfg w.p) else t.writeOnTurn s.rising)

/-- `RSTPH` (R100): the phase to the start of the rising half; in pulse mode the level is written if
the direction changed. -/
def execRstph (s : State) : Host.Outcome State Fault Refusal :=
  let t := s.setWave 0 true
  .next (if s.triangleSelected then t else t.writeOnTurn s.rising)

end Sys2Proof.Machine
end

