-- ==== Sys2Proof/Machine/Dispatch.lean ====
section
/-! DEFINITION. One arm per operation of R58. -/

namespace Sys2Proof.Machine

/-- The meaning of each operation. -/
def exec (i : Instr) (s : State) : Host.Outcome State Fault Refusal :=
  match i with
  | .nop => Sys2Proof.Machine.execNop s
  | .tick => Sys2Proof.Machine.execTick s
  | .rstph => Sys2Proof.Machine.execRstph s
  | .swchk k => Sys2Proof.Machine.execSwchk k s
  | .rauto => Sys2Proof.Machine.execRauto s
  | .pcalc => Sys2Proof.Machine.execPcalc s
  | .commit => Sys2Proof.Machine.execCommit s

end Sys2Proof.Machine
end

