-- ==== Sys2Proof/Machine/Step.lean ====
section
/-! DEFINITION. One step: the agents' next action, and the operation its command word selects. -/

namespace Sys2Proof.Machine

/-- Execute one command word (R57, R58); a reserved word changes nothing and emits nothing (R60). -/
def runCommand (c : Command) (s : State) : Host.Outcome State Fault Refusal :=
  match c with
  | .operation i => exec i s
  | .reserved w => execReserved w s

/-- One step of the machine (R5: one operation per step, in the order the commands arrive). -/
def step (s : State) : Host.Outcome State Fault Refusal :=
  match s.present with
  | (t, some w) => runCommand (decode w) t
  | (t, none) => .next t

/-- The state whose very next step executes the word `w`: the word is the next thing presented on the
command port; the agents' other actions follow it. -/
def State.withFetchWord (s : State) (nbits w : Nat) : State := s.placeWord (tableWord nbits w)

end Sys2Proof.Machine
end

