-- ==== Sys2Proof/Safety.lean ====
section
/-! DEFINITION. The terms claims are made in: runs, the invariants of R32 and of the rules around it,
and the premises on the agents and the environment (R40, R59, spec/93 U6, U8, U9).

A run of this block never stops: R104 gives it no fault, and `Fault` has no constructor. What a safe
run keeps is therefore the invariants below. -/

namespace Sys2Proof.Machine

/-- `n` steps of the machine. -/
def runSteps (n : Nat) (s : State) : Host.Outcome State Fault Refusal :=
  Host.Core.run Sys2Proof.core n s

/-- Operations executed one after the other (R51: each sees the state left by the one before it). -/
def execSeq : List Instr → State → Host.Outcome State Fault Refusal
  | [], s => .next s
  | i :: rest, s =>
    match exec i s with
    | .next t => execSeq rest t
    | .fault r => .fault r
    | .refused r => .refused r

/-- An increment pair within the no-stall bounds (R32 item 2). -/
def Increments.InRange (c : Config) (p : Increments) : Prop :=
  1 ≤ p.rise ∧ p.rise ≤ c.scaled ∧ 1 ≤ p.fall ∧ p.fall ≤ c.scaled

/-- The invariants of R32 (items 1 to 4), the remaining legal values of the table of R30, and a legal
configuration (R7). -/
structure Invariant (s : State) : Prop where
  /-- The configuration meets R7. -/
  cfg_legal : s.cfg.legal = true
  /-- R32 item 1. -/
  phase_nonneg : 0 ≤ s.phase
  /-- R32 item 1. -/
  phase_le : s.phase ≤ s.cfg.scaled
  /-- R32 item 2, the committed pair. -/
  increment_ok : s.increment.InRange s.cfg
  /-- R32 item 2, the staged pair. -/
  stageInc_ok : s.stageInc.InRange s.cfg
  /-- R32 item 3. -/
  sampleQ_le : s.sampleQ ≤ s.cfg.outRes
  /-- R32 item 4. -/
  period_ge : s.cfg.highFastest ≤ s.period
  /-- R32 item 4. -/
  period_le : s.period ≤ s.cfg.lowSlowest
  /-- R32 item 4. -/
  duty_ge : s.cfg.dutyMin ≤ s.dutyCycle
  /-- R32 item 4. -/
  duty_le : s.dutyCycle ≤ s.cfg.dutyMax
  /-- R30, S13. -/
  lastFreq_le : s.lastFreq ≤ s.cfg.adcMax
  /-- R30, S14. -/
  lastDuty_le : s.lastDuty ≤ s.cfg.adcMax
  /-- R30, S17: `WORK_BITS` wide. -/
  lastClkper_lt : s.lastClkper < 2 ^ s.cfg.workBits
  /-- R30, S23: `MS_BITS` wide. -/
  sw0_lt : s.sw0.lastChange < 2 ^ s.cfg.msBits
  /-- R30, S24: `MS_BITS` wide. -/
  sw1_lt : s.sw1.lastChange < 2 ^ s.cfg.msBits

/-- Every register's value fits the register's width (the column "Bits" of R30). -/
structure FitsRegisters (s : State) : Prop where
  /-- S0: signed, `PHASE_BITS` wide. -/
  phase : -(2 ^ (s.cfg.phaseBits - 1)) ≤ s.phase ∧ s.phase < 2 ^ (s.cfg.phaseBits - 1)
  /-- S2, S3. -/
  increment : s.increment.rise < 2 ^ s.cfg.workBits ∧ s.increment.fall < 2 ^ s.cfg.workBits
  /-- S4, S5. -/
  stageInc : s.stageInc.rise < 2 ^ s.cfg.workBits ∧ s.stageInc.fall < 2 ^ s.cfg.workBits
  /-- S7. -/
  period : s.period < 2 ^ s.cfg.workBits
  /-- S8. -/
  dutyCycle : s.dutyCycle < 2 ^ s.cfg.adcBits
  /-- S11. -/
  sampleQ : s.sampleQ < 2 ^ s.cfg.outBits
  /-- S13, S14. -/
  lastKnobs : s.lastFreq < 2 ^ s.cfg.adcBits ∧ s.lastDuty < 2 ^ s.cfg.adcBits
  /-- S17. -/
  lastClkper : s.lastClkper < 2 ^ s.cfg.workBits
  /-- S23, S24. -/
  lastChange : s.sw0.lastChange < 2 ^ s.cfg.msBits ∧ s.sw1.lastChange < 2 ^ s.cfg.msBits

/-- Between operations the phase is never at a bound in the direction of that bound (R96 corner case
(e): phase 0 implies rising). -/
structure Turned (s : State) : Prop where
  /-- Rising below the top. -/
  below_top : s.rising = true → s.phase < s.cfg.scaled
  /-- Falling above the bottom. -/
  above_bottom : s.rising = false → 0 < s.phase

/-- The pair is one that R88 computes, as a whole, from a legal period and duty. -/
def Increments.Computed (c : Config) (p : Increments) : Prop :=
  ∃ per dv, c.highFastest ≤ per ∧ per ≤ c.lowSlowest ∧ c.dutyMin ≤ dv ∧ dv ≤ c.dutyMax ∧
    p = incPair c per dv

/-- R51 item 3: both pairs, the committed and the staged, were each computed as a whole. -/
structure PairsComputed (s : State) : Prop where
  /-- The pair `TICK` reads. -/
  increment : s.increment.Computed s.cfg
  /-- The pair `COMMIT` will publish. -/
  stageInc : s.stageInc.Computed s.cfg

/-- The arguments of the `RangeNotify` events, oldest first. -/
def notifications : List Event → List Bool
  | [] => []
  | .rangeNotify h :: rest => h :: notifications rest
  | .sampleWrite _ :: rest => notifications rest

/-- The arguments of the `SampleWrite` events, oldest first. -/
def samples : List Event → List Nat
  | [] => []
  | .sampleWrite v :: rest => v :: samples rest
  | .rangeNotify _ :: rest => samples rest

/-- The list is `h, !h, h, …`. -/
def alternatesFrom (h : Bool) : List Bool → Bool
  | [] => true
  | b :: rest => (b == h) && alternatesFrom (!h) rest

/-- The event sequence agrees with the level outputs (R41, R76, R99, R103 item 1). -/
structure EventsAgree (s : State) : Prop where
  /-- R76: the notifications alternate 1, 0, 1, … starting with 1. -/
  alternate : alternatesFrom true (notifications s.events) = true
  /-- R71: the last notification is the range in force; before the first one it is low. -/
  last_range : s.rangeInd = (notifications s.events).getLast?.getD false
  /-- R103 item 1: every sample written is within `[0, OUT_RES]`. -/
  bounded : ∀ v ∈ samples s.events, v ≤ s.cfg.outRes
  /-- R99: the latch holds the last sample written; before the first one `OUT_RES` (R33). -/
  last_sample : s.sampleOut = (samples s.events).getLast?.getD s.cfg.outRes

/-- The outputs of the last recomputation are what the last-observed copies give (R26, R83, R89), once
a recomputation has been made. -/
structure ObservedAgree (s : State) : Prop where
  /-- S13 holds a conditioned value: the dead-zone leaves it as it is. -/
  snapped : snap s.cfg s.lastFreq = s.lastFreq
  /-- `period` is the target period of the observed inputs. -/
  period : s.pcForce = false →
    s.period = targetPeriod s.cfg s.lastClocked s.lastRange s.lastFreq s.lastClkper
  /-- `dutyCycle` is the clamped observed duty knob. -/
  duty : s.pcForce = false → s.dutyCycle = dutyValue s.cfg s.lastDuty
  /-- The staged pair is the one of that period and duty. -/
  staged : s.pcForce = false → s.stageInc = incPair s.cfg s.period s.dutyCycle

/-- The latch holds the pulse level of the direction (R98). -/
def PulseFollows (s : State) : Prop := s.sampleQ = pulseLevel s.cfg s.rising

/-- Two states agree on what `TICK` reads (R112): its own registers, the committed pair, the shape and
the configuration. -/
structure AgreeForTick (s t : State) : Prop where
  /-- S0. -/
  phase : s.phase = t.phase
  /-- S1. -/
  rising : s.rising = t.rising
  /-- S2, S3. -/
  increment : s.increment = t.increment
  /-- S10. -/
  triangleSelected : s.triangleSelected = t.triangleSelected
  /-- R8. -/
  cfg : s.cfg = t.cfg

/-- DEDUCED, safe (log entry 11). Premise of claims meant for the source (R59, spec/93 U8, U9): the
poll context issues whole `POLL` sequences, and `RSTPH` and `NOP` only between two of them; no other
word, so no reserved word, is presented. -/
def pollDiscipline : PollPos → List Arrival → Bool
  | _, [] => true
  | q, .command w :: rest =>
    decide (q = .swchk0) && (w == Instr.word .rstph || w == Instr.word .nop) && pollDiscipline q rest
  | q, .tick :: rest => pollDiscipline q rest
  | q, .poll :: rest => pollDiscipline q.succ rest
  | q, .drive _ :: rest => pollDiscipline q rest
  | _, .reset :: rest => pollDiscipline .swchk0 rest

/-- What one `SWCHK` samples of its switch and of the clock (R35, R40). -/
structure Sampling where
  /-- The switch it polls. -/
  switch : SwitchIndex
  /-- `in.sw_raw[switch]`. -/
  raw : Bool
  /-- `in.now_ms`, as the port shows it. -/
  now : Nat
  deriving DecidableEq, Repr

/-- What a `SWCHK i` executed in this state samples. -/
def State.sampling (s : State) (i : SwitchIndex) : Sampling :=
  { switch := i, raw := s.inSwRaw i, now := s.inNowMs }

/-- The events of an input stream that the premise of R40 is about. -/
inductive InputEvent where
  /-- A `SWCHK` samples the clock. -/
  | sampled (x : Sampling)
  /-- Reset: the clock may have any value after it (R118 item 4). -/
  | restarted
  deriving DecidableEq, Repr

/-- The switch a presented word polls (R58), none if it is not a `SWCHK`. -/
def checkedSwitch (w : CmdWord) : Option SwitchIndex :=
  match decode w with
  | .operation (.swchk i) => some i
  | _ => none

/-- The events of the input stream that the actions are from this state on: which `SWCHK` come, by the
poll agent's position or as words on the port, and what each samples of the ports as the environment
has driven them by then. No operation is executed: none of this depends on the block (R43). -/
def State.inputEvents (s : State) : List Arrival → List InputEvent
  | [] => []
  | .reset :: rest => .restarted :: (s.act .reset).1.inputEvents rest
  | a :: rest =>
    let t := (s.act a).1
    match (s.act a).2.bind checkedSwitch with
    | some i => .sampled (t.sampling i) :: t.inputEvents rest
    | none => t.inputEvents rest

/-- The true times, in milliseconds, at which the clock was last sampled since reset: by any `SWCHK`,
and by the `SWCHK` of each switch. -/
structure ClockView where
  /-- By any `SWCHK`. -/
  now : Option Nat
  /-- By `SWCHK 0`. -/
  last0 : Option Nat
  /-- By `SWCHK 1`. -/
  last1 : Option Nat
  deriving DecidableEq, Repr

/-- Nothing sampled since reset. -/
def ClockView.fresh : ClockView := { now := none, last0 := none, last1 := none }

/-- The last time at which `SWCHK i` sampled the clock. -/
def ClockView.last (v : ClockView) : SwitchIndex → Option Nat
  | .rangeOverride => v.last0
  | .waveformShape => v.last1

/-- `SWCHK i` samples the clock at true time `t`. -/
def ClockView.see (v : ClockView) (t : Nat) : SwitchIndex → ClockView
  | .rangeOverride => { v with now := some t, last0 := some t }
  | .waveformShape => { v with now := some t, last1 := some t }

/-- R40's two conditions on a `SWCHK i` at true time `t`: the clock has not decreased since the last
sampling, whichever switch that one polled, and it has advanced by less than `2^(MS_BITS-1)` since the
last `SWCHK` of the same switch. -/
def ClockView.admits (v : ClockView) (c : Config) (t : Nat) (i : SwitchIndex) : Bool :=
  (v.now.all fun a => decide (a ≤ t)) &&
  (v.last i).all fun a => decide (t < a + 2 ^ (c.msBits - 1))

/-- The samplings of the events were made at the given true times, one for each, in order: the port
showed each modulo `2^MS_BITS`, and each meets R40's conditions after the ones before it. -/
def clockObeys (c : Config) : ClockView → List InputEvent → List Nat → Bool
  | _, [], [] => true
  | _, .restarted :: events, times => clockObeys c .fresh events times
  | v, .sampled x :: events, t :: times =>
    decide (t % 2 ^ c.msBits = x.now) && v.admits c t x.switch &&
      clockObeys c (v.see t x.switch) events times
  | _, _, _ => false

/-- DEDUCED, safe (log entry 10). The premise of R40 on the input stream (spec/93 U6): the true times
are those of a monotonic millisecond clock that the stream presents on `now_ms`, sampled often
enough. -/
def State.clockPremise (s : State) (actions : List Arrival) (times : List Nat) : Bool :=
  clockObeys s.cfg .fresh (s.inputEvents actions) times

/-- The true times of the samplings that `SWCHK i` made. -/
def checkTimes (i : SwitchIndex) : List InputEvent → List Nat → List Nat
  | .sampled x :: events, t :: times =>
    if x.switch = i then t :: checkTimes i events times else checkTimes i events times
  | .restarted :: events, times => checkTimes i events times
  | _, _ => []

end Sys2Proof.Machine
end

