-- ==== Sys2Proof/Certificates/Slice0/Obligations.lean ====
section
/-! DEFINITION. The statements. A frame is written as one equation: the next state is the old one with
only the named fields replaced, so every other field, the configuration, the ports and the agents'
position among them, is as before. The block has no memory (R44), so no frame speaks of bytes. -/

open Sys2Proof Sys2Proof.Machine

/-! ### The command port -/

/-- R58, the column `cmd` of the opcode map, word by word. -/
def Obligations.DefinedWordsDecode : Prop :=
  decode 0b00000000#8 = .operation .nop ∧ decode 0b00010000#8 = .operation .tick ∧
  decode 0b00100000#8 = .operation .rstph ∧
  decode 0b00110000#8 = .operation (.swchk .rangeOverride) ∧
  decode 0b00110001#8 = .operation (.swchk .waveformShape) ∧
  decode 0b01000000#8 = .operation .rauto ∧ decode 0b01010000#8 = .operation .pcalc ∧
  decode 0b01100000#8 = .operation .commit

/-- R58: the match/mask rows select exactly the words that decode to their operation, `SWCHK`'s index
is `cmd[0]`, the rows are pairwise disjoint, and everything else is reserved. -/
def Obligations.OpcodeRowsSelectTheirWords : Prop :=
  (∀ (w : CmdWord) (i : Instr), decode w = .operation i ↔
    i.row.selects w = true ∧ ∀ k, i = .swchk k → k.number = (w.getLsbD 0).toNat) ∧
  (∀ (w : CmdWord) (i j : Instr),
    i.row.selects w = true → j.row.selects w = true → i.row = j.row) ∧
  ∀ w : CmdWord, decode w = .reserved w ↔ ∀ i : Instr, i.row.selects w = false

/-- R57, R58, R60: a well-formed command survives encoding and decoding, and every one of the 256
words survives decoding and encoding. -/
def Obligations.DecodeAndEncodeAgree : Prop :=
  (∀ c : Command, c.wellFormed = true → decode (encode c) = c) ∧
  ∀ w : CmdWord, (decode w).wellFormed = true ∧ encode (decode w) = w

/-- R60: the reserved words are those with `op` in 7 to 15 or a must-be-zero bit set, there are 248 of
them, the decoder maps each to `reserved`, and issuing one changes nothing, exactly as `NOP`. -/
def Obligations.ReservedWordsBehaveLikeNop : Prop :=
  (∀ w : CmdWord, decode w = .reserved w ↔
    7 ≤ w.op.toNat ∨ w.z ≠ 0#3 ∨ (w.s = true ∧ w.op ≠ 3#4)) ∧
  ((List.range 256).countP fun n =>
    decide (decode (BitVec.ofNat 8 n) = .reserved (BitVec.ofNat 8 n))) = 248 ∧
  ∀ (s : State) (w : CmdWord) (rest : List Arrival), decode w = .reserved w →
    s.arrivals = .command w :: rest →
      step s = .next { s with arrivals := rest } ∧
      step s = step { s with arrivals := .command 0x00#8 :: rest }

/-! ### The step and the agents -/

/-- R57: a command word that decodes to an operation is executed as that operation, and is then no
longer presented. The list of actions is the model's own field (log entry 2). That the poll agent's
position stays as it was, also when the word is one of the five micro-operations of `POLL`, is the
model's choice (log entry 8, DESIGN CHOICE): R24 advances it when the poll agent issues its
micro-operation, which is `PollContextIssuesTheNextMicroOperation`. -/
def Obligations.StepRunsTheDecodedCommand : Prop :=
  ∀ (s : State) (w : CmdWord) (rest : List Arrival) (i : Instr),
    s.arrivals = .command w :: rest → decode w = .operation i →
      step s = exec i { s with arrivals := rest }

/-- R5 item 1: the tick context issues `TICK` and nothing else, and changes no position of the poll
agent (R24). The list of actions is the model's own field (log entry 2). -/
def Obligations.TickContextIssuesTick : Prop :=
  ∀ (s : State) (rest : List Arrival), s.arrivals = .tick :: rest →
    step s = exec .tick { s with arrivals := rest }

/-- R24: the micro-operation each position names, and the position after it. The list of actions is
the model's own field (log entry 2). -/
def Obligations.PollContextIssuesTheNextMicroOperation : Prop :=
  ∀ (s : State) (rest : List Arrival), s.arrivals = .poll :: rest →
    (s.pstep = .swchk0 → step s =
      exec (.swchk .rangeOverride) { s with arrivals := rest, pstep := .swchk1 }) ∧
    (s.pstep = .swchk1 → step s =
      exec (.swchk .waveformShape) { s with arrivals := rest, pstep := .rauto }) ∧
    (s.pstep = .rauto → step s = exec .rauto { s with arrivals := rest, pstep := .pcalc }) ∧
    (s.pstep = .pcalc → step s = exec .pcalc { s with arrivals := rest, pstep := .commit }) ∧
    (s.pstep = .commit → step s = exec .commit { s with arrivals := rest, pstep := .swchk0 })

/-- R59: five steps of the poll context from position 0 are the five operations of `POLL` in order,
and bring it back to position 0. The list of actions is the model's own field (log entry 2). -/
def Obligations.PollIsItsFiveOperations : Prop :=
  ∀ (s : State) (rest : List Arrival), s.pstep = .swchk0 →
    s.arrivals = .poll :: .poll :: .poll :: .poll :: .poll :: rest →
      ∃ t, execSeq [.swchk .rangeOverride, .swchk .waveformShape, .rauto, .pcalc, .commit] s = .next t ∧
        runSteps 5 s = .next { t with arrivals := rest, pstep := .swchk0 }

/-- R5 item 3 and R115: the environment changes the ports and nothing else, and with no action to come
the block holds its state. The list of actions is the model's own field (log entry 2). -/
def Obligations.EnvironmentDrivesOnlyThePorts : Prop :=
  (∀ (s : State) (p : Ports) (rest : List Arrival), s.arrivals = .drive p :: rest →
    step s = .next { s with arrivals := rest, ports := p }) ∧
  ∀ s : State, s.arrivals = [] → step s = .next s

/-- R116 (an external reset signal, if the integrator provides one): the reset action leaves the reset
state of the same configuration; that the ports stay driven and the later actions stay to come is the
model's choice (log entry 4). -/
def Obligations.ResetActionRestoresTheResetState : Prop :=
  ∀ (s : State) (rest : List Arrival), s.arrivals = .reset :: rest →
    step s = .next { State.resetOf s.cfg with ports := s.ports, arrivals := rest }

/-- R104: no operation and no step stops, in any state; the fault type is empty; and what is refused
before the first step is an illegal configuration. -/
def Obligations.NoOperationEverStops : Prop :=
  (∀ f : Fault, f ≠ f) ∧ (∀ (i : Instr) (s : State), ∃ t, exec i s = .next t) ∧
  (∀ s : State, ∃ t, step s = .next t) ∧
  ∀ c : Config, (∃ r, State.boot c = .refused r) ↔ c.legal = false

/-- R8: neither an operation nor a step writes a parameter. -/
def Obligations.ConfigurationIsConstant : Prop :=
  (∀ (i : Instr) (s t : State), exec i s = .next t → t.cfg = s.cfg) ∧
  ∀ s t : State, step s = .next t → t.cfg = s.cfg

/-- R42: the write matrix, one row per operation. -/
def Obligations.WriteMatrix : Prop :=
  (∀ s t : State, exec .nop s = .next t → t = s) ∧
  (∀ s t : State, exec .tick s = .next t → t = { s with
    phase := t.phase, rising := t.rising, sampleQ := t.sampleQ, events := t.events }) ∧
  (∀ s t : State, exec .rstph s = .next t → t = { s with
    phase := t.phase, rising := t.rising, sampleQ := t.sampleQ, events := t.events }) ∧
  (∀ s t : State, exec (.swchk .rangeOverride) s = .next t → t = { s with
    sw0 := t.sw0, highRange := t.highRange, events := t.events }) ∧
  (∀ s t : State, exec (.swchk .waveformShape) s = .next t → t = { s with
    sw1 := t.sw1, triangleSelected := t.triangleSelected }) ∧
  (∀ s t : State, exec .rauto s = .next t → t = { s with
    highRange := t.highRange, rsPrevClocked := t.rsPrevClocked, events := t.events }) ∧
  (∀ s t : State, exec .pcalc s = .next t → t = { s with
    stageInc := t.stageInc, stageValid := t.stageValid, period := t.period,
    dutyCycle := t.dutyCycle, lastFreq := t.lastFreq, lastDuty := t.lastDuty,
    lastRange := t.lastRange, lastClocked := t.lastClocked, lastClkper := t.lastClkper,
    pcForce := t.pcForce }) ∧
  ∀ s t : State, exec .commit s = .next t → t = { s with
    increment := t.increment, stageValid := t.stageValid }

/-! ### Reset -/

/-- R33: every element after reset, in every configuration. -/
def Obligations.ResetValues : Prop :=
  ∀ c : Config, let s := State.resetOf c
    s.phase = 0 ∧ s.rising = true ∧ s.increment = incPair c c.lowSlowest c.resetDuty ∧
    s.stageInc = s.increment ∧ s.stageValid = false ∧ s.period = c.lowSlowest ∧
    s.dutyCycle = c.resetDuty ∧ s.highRange = false ∧ s.triangleSelected = false ∧
    s.sampleQ = c.outRes ∧ s.rsPrevClocked = false ∧ s.lastFreq = 0 ∧ s.lastDuty = c.resetDuty ∧
    s.lastRange = false ∧ s.lastClocked = false ∧ s.lastClkper = 0 ∧ s.pcForce = true ∧
    ∀ i : SwitchIndex, (s.sw i).stable = (c.switch i).invert ∧
      (s.sw i).lastRaw = (c.switch i).invert ∧ (s.sw i).lastChange = 0

/-- R116, R28: reset emits no event, its level outputs are `OUT_RES` and 0, both switches read as
disengaged, and the poll agent stands at position 0 (R24). -/
def Obligations.ResetOutputs : Prop :=
  ∀ c : Config, (State.resetOf c).events = [] ∧ (State.resetOf c).sampleOut = c.outRes ∧
    (State.resetOf c).rangeInd = false ∧ (State.resetOf c).pstep = .swchk0 ∧
    ∀ i : SwitchIndex, (State.resetOf c).swOn i = false

/-- R7, R104: a configuration that fails the check is refused before the first step, and only such a
one. -/
def Obligations.OnlyIllegalConfigurationsAreRefused : Prop :=
  ∀ c : Config, (c.legal = true → State.boot c = .next (State.resetOf c)) ∧
    (c.legal = false → State.boot c = .refused .illegalConfiguration)

/-- R33 ("made so that all invariants of rule R32 hold at reset"): the invariants hold at reset in
every legal configuration. -/
def Obligations.InvariantsHoldAtReset : Prop :=
  ∀ c : Config, c.legal = true →
    Invariant (State.resetOf c) ∧ Turned (State.resetOf c) ∧ PairsComputed (State.resetOf c) ∧
    EventsAgree (State.resetOf c) ∧ ObservedAgree (State.resetOf c)

/-- The invariants hold of `State.reset`, whose configuration REF is the model's choice (log
entry 1). -/
def Obligations.InvariantsHoldAtModelReset : Prop :=
  Invariant State.reset ∧ Turned State.reset ∧ PairsComputed State.reset ∧
  EventsAgree State.reset ∧ ObservedAgree State.reset

/-! ### Invariants that every step keeps -/

/-- R32 items 1 to 4, R30 and R7: one step keeps the invariant, whatever the agents do. -/
def Obligations.StepKeepsInvariant : Prop :=
  ∀ s t : State, Invariant s → step s = .next t → Invariant t

/-- R96 corner case (e): between operations the phase is at a bound only in the direction away from
it; in particular phase 0 implies rising. -/
def Obligations.StepKeepsTurned : Prop :=
  ∀ s t : State, Invariant s → Turned s → step s = .next t → Turned t

/-- R51 item 3: at every instant the two elements of the committed pair, and of the staged pair,
belong to the same computed pair. -/
def Obligations.StepKeepsPairsWhole : Prop :=
  ∀ s t : State, Invariant s → PairsComputed s → step s = .next t → PairsComputed t

/-- R76, R103 item 1, R99, R71: the event sequence keeps agreeing with the level outputs. -/
def Obligations.StepKeepsEventsInAgreement : Prop :=
  ∀ s t : State, EventsAgree s → step s = .next t → EventsAgree t

/-- R26, R83, R89: the outputs of the last recomputation stay those of the last-observed copies. -/
def Obligations.StepKeepsObservedInAgreement : Prop :=
  ∀ s t : State, s.cfg.legal = true → ObservedAgree s → step s = .next t → ObservedAgree t

/-- R32: every state reachable from reset, in every legal configuration, under every sequence of
agents' actions, meets the invariants, and `range_ind` is `highRange` in it (item 5). -/
def Obligations.EveryReachableStateMeetsTheInvariants : Prop :=
  ∀ (c : Config) (actions : List Arrival) (n : Nat), c.legal = true →
    ∃ t, runSteps n { State.resetOf c with arrivals := actions } = .next t ∧
      Invariant t ∧ Turned t ∧ PairsComputed t ∧ EventsAgree t ∧ ObservedAgree t ∧
      t.rangeInd = t.highRange

/-- R15 to R19, R26, R28, R29: every register's value fits the register's width in every state that
meets the invariant. -/
def Obligations.InvariantStatesFitTheirRegisters : Prop :=
  ∀ s : State, Invariant s → FitsRegisters s

/-- R59, R90: while the poll context issues whole `POLL` sequences (log entry 11), a pair is staged only between
`PCALC` and the `COMMIT` after it. -/
def Obligations.DisciplinedPollsCommitWhatTheyStage : Prop :=
  ∀ s t : State, pollDiscipline s.pstep s.arrivals = true →
    (s.stageValid = true → s.pstep = .commit) → step s = .next t →
      pollDiscipline t.pstep t.arrivals = true ∧ (t.stageValid = true → t.pstep = .commit)

/-! ### The waveform engine -/

/-- R102: `NOP`, the word 0x00, reads and writes nothing and emits nothing. -/
def Obligations.NopChangesNothing : Prop :=
  decode 0b00000000#8 = .operation .nop ∧ ∀ s : State, exec .nop s = .next s

/-- R96: the phase, the direction, the sample and the event of one `TICK`, the word 0x10, in every
state. -/
def Obligations.TickAdvancesAndReflects : Prop :=
  decode 0b00010000#8 = .operation .tick ∧ ∀ s : State,
    let S : Int := s.cfg.scaled
    let p0 : Int := if s.rising then s.phase + s.increment.rise else s.phase - s.increment.fall
    let p1 : Int := if S ≤ p0 then S - (p0 - S) else p0
    let r1 : Bool := if S ≤ p0 then false else s.rising
    let p2 : Int := if p1 ≤ 0 then -p1 else p1
    let r2 : Bool := if p1 ≤ 0 then true else r1
    let level : Nat := if r2 then s.cfg.outRes else 0
    ∃ t, exec .tick s = .next t ∧ t.phase = p2 ∧ t.rising = r2 ∧
      (s.triangleSelected = true →
        t.sampleQ = triSample s.cfg p2 ∧
        t.events = s.events ++ [.sampleWrite (triSample s.cfg p2)]) ∧
      (s.triangleSelected = false → r2 ≠ s.rising →
        t.sampleQ = level ∧ t.events = s.events ++ [.sampleWrite level]) ∧
      (s.triangleSelected = false → r2 = s.rising →
        t.sampleQ = s.sampleQ ∧ t.events = s.events) ∧
      t = { s with
        phase := t.phase, rising := t.rising, sampleQ := t.sampleQ, events := t.events }

/-- R96, range of p, and R15: the phase before the reflections lies in `[-S, 2*S]`, so the signed
register of `PHASE_BITS` bits holds it and nothing wraps. -/
def Obligations.TickNeverWrapsThePhaseRegister : Prop :=
  ∀ s : State, Invariant s →
    let p : Int := if s.rising then s.phase + s.increment.rise else s.phase - s.increment.fall
    p ≤ 2 * s.cfg.scaled ∧ -(s.cfg.scaled : Int) ≤ p ∧
    (BitVec.ofInt s.cfg.phaseBits p).toInt = p

/-- R96 corner case (c): both tests fire only from `phase = S`, rising, with `increment[0] = S`; the
tick then ends at phase 0, rising, and in pulse mode writes nothing. -/
def Obligations.BothReflectionsOnlyAtFullStep : Prop :=
  ∀ s : State, Invariant s →
    let S : Int := s.cfg.scaled
    let p : Int := if s.rising then s.phase + s.increment.rise else s.phase - s.increment.fall
    ((S ≤ p ∧ S - (p - S) ≤ 0) ↔
      s.rising = true ∧ s.phase = S ∧ s.increment.rise = s.cfg.scaled) ∧
    (s.rising = true → s.phase = S → s.increment.rise = s.cfg.scaled →
      ∃ t, exec .tick s = .next t ∧ t.phase = 0 ∧ t.rising = true ∧
        (s.triangleSelected = false → t.sampleQ = s.sampleQ ∧ t.events = s.events))

/-- R97: within `[0, S]` the triangle sample is the phase without its fraction bits, lies in
`[0, OUT_RES]`, and is 0 and `OUT_RES` at the two bounds. -/
def Obligations.TriangleSampleIsTheDescaledPhase : Prop :=
  ∀ (c : Config) (p : Nat), p ≤ c.scaled →
    triSample c p = p / 2 ^ c.scaleShift ∧ p / 2 ^ c.scaleShift ≤ c.outRes ∧
    triSample c 0 = 0 ∧ triSample c c.scaled = c.outRes

/-- R98: in pulse mode an operation writes the pulse level exactly when it leaves `rising` different
from what it found; so the latch keeps following the direction once it does, which it does at reset
and from the first change of `rising` on. No other operation than `TICK` and `RSTPH` changes `rising`,
the latch or the samples written, a change of the shape among them. -/
def Obligations.PulseIsWrittenExactlyOnATurn : Prop :=
  (∀ (i : Instr) (s t : State), s.triangleSelected = false → exec i s = .next t →
    (∃ new, t.events = s.events ++ new ∧
      samples new = if t.rising = s.rising then [] else [if t.rising then s.cfg.outRes else 0]) ∧
    (t.rising ≠ s.rising → PulseFollows t) ∧ (PulseFollows s → PulseFollows t)) ∧
  (∀ (i : Instr) (s t : State), i ≠ .tick → i ≠ .rstph → exec i s = .next t →
    t.rising = s.rising ∧ t.sampleQ = s.sampleQ ∧ samples t.events = samples s.events) ∧
  ∀ c : Config, PulseFollows (State.resetOf c)

/-- R100: `RSTPH`, the word 0x20, in every state. -/
def Obligations.RstphRestartsTheRisingHalf : Prop :=
  decode 0b00100000#8 = .operation .rstph ∧ ∀ s : State, ∃ t, exec .rstph s = .next t ∧ t.phase = 0 ∧ t.rising = true ∧
    (s.triangleSelected = false → s.rising = false →
      t.sampleQ = s.cfg.outRes ∧ t.events = s.events ++ [.sampleWrite s.cfg.outRes]) ∧
    (s.triangleSelected = true ∨ s.rising = true →
      t.sampleQ = s.sampleQ ∧ t.events = s.events) ∧
    t = { s with phase := t.phase, rising := t.rising, sampleQ := t.sampleQ, events := t.events }

/-- R100, corner cases: a second `RSTPH` writes the same state and emits nothing. -/
def Obligations.RstphIsIdempotent : Prop :=
  ∀ s t : State, exec .rstph s = .next t → exec .rstph t = .next t

/-- R103 item 2: the tick counts of one cycle from phase 0, rising, with a constant pair, and the
phase at every tick of it. -/
def Obligations.CycleTickCounts : Prop :=
  ∀ (s : State) (rest : List Arrival), Invariant s → s.phase = 0 → s.rising = true →
    let S := s.cfg.scaled
    let a := s.increment.rise
    let b := s.increment.fall
    let k0 := (S + a - 1) / a
    let e0 := k0 * a - S
    let m0 := (S - e0 + b - 1) / b
    let e1 := m0 * b - (S - e0)
    s.arrivals = List.replicate (k0 + m0) .tick ++ rest →
      e0 < a ∧ e1 < b ∧
      (∀ j, j < k0 → ∃ t, runSteps j s = .next t ∧ t.rising = true ∧ t.phase = (j * a : Nat)) ∧
      (∀ j, j < m0 → ∃ t, runSteps (k0 + j) s = .next t ∧ t.rising = false ∧
        t.phase = (S : Int) - e0 - (j * b : Nat)) ∧
      ∃ t, runSteps (k0 + m0) s = .next t ∧ t.rising = true ∧ t.phase = e1 ∧ t.arrivals = rest

/-- R103 item 3: the cycle closes on phase 0 if and only if the falling step divides the falling
distance; in particular when both steps divide `S`. -/
def Obligations.CycleClosesExactlyWhenTheFallDivides : Prop :=
  ∀ (s : State) (rest : List Arrival), Invariant s → s.phase = 0 → s.rising = true →
    let S := s.cfg.scaled
    let a := s.increment.rise
    let b := s.increment.fall
    let k0 := (S + a - 1) / a
    let e0 := k0 * a - S
    let m0 := (S - e0 + b - 1) / b
    s.arrivals = List.replicate (k0 + m0) .tick ++ rest →
      ∃ t, runSteps (k0 + m0) s = .next t ∧ t.rising = true ∧
        (t.phase = 0 ↔ b ∣ S - e0) ∧ (a ∣ S → b ∣ S → t.phase = 0)

/-- R103 item 5: with the pair held constant a reflection turns the direction in at most `S` ticks. -/
def Obligations.DirectionTurnsWithinSTicks : Prop :=
  ∀ (s : State) (rest : List Arrival), Invariant s → Turned s →
    s.arrivals = List.replicate s.cfg.scaled .tick ++ rest →
      ∃ n t, 1 ≤ n ∧ n ≤ s.cfg.scaled ∧ runSteps n s = .next t ∧ t.rising ≠ s.rising

/-- R112, R51 item 4: what `TICK` does depends only on its own registers, the committed pair, the
shape and the configuration: on no port, no staged pair and no other poll-owned element. -/
def Obligations.TickSeesOnlyWhatIsShared : Prop :=
  ∀ s t s' t' : State, AgreeForTick s t → exec .tick s = .next s' → exec .tick t = .next t' →
    AgreeForTick s' t' ∧
    ∃ new, s'.events = s.events ++ new ∧ t'.events = t.events ++ new ∧
      (new ≠ [] → s'.sampleQ = t'.sampleQ) ∧
      (new = [] → s'.sampleQ = s.sampleQ ∧ t'.sampleQ = t.sampleQ)

/-! ### The debounced switches -/

/-- R65 with R64, R67, R71, R72, R101: one poll of either switch, the words 0x30 and 0x31, in every
state. -/
def Obligations.SwchkDebouncesAndDispatches : Prop :=
  decode 0b00110000#8 = .operation (.swchk .rangeOverride) ∧
  decode 0b00110001#8 = .operation (.swchk .waveformShape) ∧ ∀ (i : SwitchIndex) (s : State),
    let raw := s.inSwRaw i
    let w := s.sw i
    let change := if raw = w.lastRaw then w.lastChange else s.inNowMs
    let elapsed := ((s.inNowMs : Int) - change) % 2 ^ s.cfg.msBits
    let accepted := (s.cfg.debounceMs : Int) ≤ elapsed ∧ raw ≠ w.stable
    let on := raw ^^ (s.cfg.switch i).invert
    let bound := if on then (s.cfg.switch i).engBound else (s.cfg.switch i).disBound
    let clocked := s.inClkActive = true ∧ s.cfg.minClockPeriod < s.inClkPeriod
    ∃ t, exec (.swchk i) s = .next t ∧
      (t.sw i).lastRaw = raw ∧ (t.sw i).lastChange = change ∧
      (accepted → (t.sw i).stable = raw) ∧ (¬accepted → (t.sw i).stable = w.stable) ∧
      (i = .rangeOverride → accepted → bound = true → ¬clocked →
        t.highRange = on ∧
        t.events = s.events ++ if s.highRange = on then [] else [.rangeNotify on]) ∧
      (i = .waveformShape → accepted → bound = true →
        t.triangleSelected = on ∧ t.events = s.events) ∧
      (i = .waveformShape ∨ ¬accepted ∨ bound = false ∨ clocked →
        t.highRange = s.highRange ∧ t.events = s.events) ∧
      (i = .rangeOverride ∨ ¬accepted ∨ bound = false →
        t.triangleSelected = s.triangleSelected) ∧
      (∀ j, j ≠ i → t.sw j = s.sw j) ∧
      t = { s with
        sw0 := t.sw0, sw1 := t.sw1, highRange := t.highRange,
        triangleSelected := t.triangleSelected, events := t.events }

/-- R65 corner case (a): in the step that sees the raw level change no event fires, and the debounced
level stays. -/
def Obligations.FreshChangeFiresNothing : Prop :=
  ∀ (i : SwitchIndex) (s : State), s.cfg.legal = true → s.inSwRaw i ≠ (s.sw i).lastRaw →
    ∃ t, exec (.swchk i) s = .next t ∧ (t.sw i).stable = (s.sw i).stable ∧
      (t.sw i).lastRaw = s.inSwRaw i ∧ (t.sw i).lastChange = s.inNowMs ∧
      t.highRange = s.highRange ∧ t.triangleSelected = s.triangleSelected ∧ t.events = s.events

/-- R70: the elapsed time is the true number of milliseconds across a wrap of the clock, provided
that fewer than `2^MS_BITS` have passed. -/
def Obligations.ElapsedTimeIsTrueAcrossAWrap : Prop :=
  ∀ (c : Config) (t0 t1 : Nat), t0 ≤ t1 → t1 - t0 < 2 ^ c.msBits →
    elapsedMs c (t1 % 2 ^ c.msBits) (t0 % 2 ^ c.msBits) = t1 - t0

/-- R69 under the premise of R40 on the whole input stream (log entry 10): in any stream of actions
without a reset, `SWCHK` of the other switch, ticks and every other operation among them, a level first
seen by a `SWCHK i` at true time `t0` and seen unchanged by every later `SWCHK i` is accepted by the
first of them whose time is at least `t0 + DEBOUNCE_MS`, and by no earlier one; for the shape switch
the bound event's action comes with it. The list of actions is the model's own field (log entry
2). -/
def Obligations.AcceptanceDelay : Prop :=
  ∀ (s : State) (i : SwitchIndex) (v : Bool) (actions rest : List Arrival) (times : List Nat),
    s.cfg.legal = true → (s.sw i).stable ≠ v → (s.sw i).lastRaw ≠ v →
    s.arrivals = actions ++ rest → .reset ∉ actions → s.clockPremise actions times = true →
    (∀ x, .sampled x ∈ s.inputEvents actions → x.switch = i → x.raw = v) →
      let on := v ^^ (s.cfg.switch i).invert
      let bound := if on then (s.cfg.switch i).engBound else (s.cfg.switch i).disBound
      ∃ t, runSteps actions.length s = .next t ∧ t.arrivals = rest ∧
        ∀ t0 later, checkTimes i (s.inputEvents actions) times = t0 :: later →
          let due := ∃ now ∈ later, t0 + s.cfg.debounceMs ≤ now
          (t.sw i).lastRaw = v ∧ ((t.sw i).stable = v ↔ due) ∧
          (i = .waveformShape → due → bound = true → t.triangleSelected = on) ∧
          (i = .waveformShape → ¬due ∨ bound = false → t.triangleSelected = s.triangleSelected)

/-! ### The range selector -/

/-- R77: while externally clocked, `SWCHK 0` changes no range, whatever the switch does. -/
def Obligations.RangeLockout : Prop :=
  ∀ s : State, s.inClkActive = true → s.cfg.minClockPeriod < s.inClkPeriod →
    ∃ t, exec (.swchk .rangeOverride) s = .next t ∧ t.highRange = s.highRange ∧
      t.events = s.events

/-- R73 with R75 and R71: `RAUTO`, the word 0x40, in every state. -/
def Obligations.RautoSelectsTheRange : Prop :=
  decode 0b01000000#8 = .operation .rauto ∧ ∀ s : State,
    let e := s.inClkActive && decide (s.cfg.minClockPeriod < s.inClkPeriod)
    let slow := s.cfg.crossover < s.inClkPeriod ∧ s.highRange = true
    let fast := s.inClkPeriod < s.cfg.crossover ∧ s.highRange = false
    ∃ t, exec .rauto s = .next t ∧ t.rsPrevClocked = e ∧
      (e = true → slow → t.highRange = false) ∧ (e = true → fast → t.highRange = true) ∧
      (e = true → ¬slow → ¬fast → t.highRange = s.highRange) ∧
      (e = false → s.rsPrevClocked = true → t.highRange = (s.sw0.stable ^^ s.cfg.sw0.invert)) ∧
      (e = false → s.rsPrevClocked = false → t.highRange = s.highRange) ∧
      t.events = s.events ++ (if t.highRange = s.highRange then [] else [.rangeNotify t.highRange]) ∧
      t = { s with
        highRange := t.highRange, rsPrevClocked := t.rsPrevClocked, events := t.events }

/-- R12, R71: every operation emits one `RangeNotify` with the new range when it changes `highRange`,
and none otherwise. -/
def Obligations.OneNotificationPerRangeChange : Prop :=
  ∀ (i : Instr) (s t : State), exec i s = .next t →
    ∃ new, t.events = s.events ++ new ∧
      notifications new = if t.highRange = s.highRange then [] else [t.highRange]

/-! ### The period calculator -/

/-- R79: the three branches of the overflow-safe multiply-divide, the test being whether the exact
product fits the working width. -/
def Obligations.SafeMuldivBranches : Prop :=
  ∀ (c : Config) (a b d : Nat), 1 ≤ d →
    (b = 0 → safeMuldiv c a b d = 0) ∧
    (b ≠ 0 → a * b > c.maxW → safeMuldiv c a b d = a / d * b % 2 ^ c.workBits) ∧
    (b ≠ 0 → a * b ≤ c.maxW → safeMuldiv c a b d = a * b / d)

/-- R92: exact on the exact branch; on the divide-first branch never above the exact floor and below
it by exactly `(r * b) / d`, which is less than `b`, as long as the divide-first product fits the
working width (R7 item 10). -/
def Obligations.SafeMuldivError : Prop :=
  ∀ (c : Config) (a b d : Nat), 1 ≤ d → a / d * b ≤ c.maxW →
    safeMuldiv c a b d ≤ a * b / d ∧
    (a * b ≤ c.maxW → safeMuldiv c a b d = a * b / d) ∧
    (c.maxW < a * b →
      a * b / d - safeMuldiv c a b d = a % d * b / d ∧
      a % d * b / d ≤ (d - 1) * b / d ∧ (d - 1) * b / d < b)

/-- R88, R91: for every legal period and duty the duty period is at most the period and its
divide-first product does not wrap, the increments are `S / n` raised to at least 1, and both lie in
`[1, S]`. -/
def Obligations.IncrementsStayWithinOneAndS : Prop :=
  ∀ (c : Config) (per dv : Nat), c.legal = true → c.highFastest ≤ per → per ≤ c.lowSlowest →
    c.dutyMin ≤ dv → dv ≤ c.dutyMax →
      let dp := safeMuldiv c per dv c.adcMax
      dp ≤ per ∧ per / c.adcMax * dv ≤ c.maxW ∧
      (incPair c per dv).rise = max 1 (c.scaled / max 1 (dp / c.tickInterval)) ∧
      (incPair c per dv).fall = max 1 (c.scaled / max 1 ((per - dp) / c.tickInterval)) ∧
      1 ≤ (incPair c per dv).rise ∧ (incPair c per dv).rise ≤ c.scaled ∧
      1 ≤ (incPair c per dv).fall ∧ (incPair c per dv).fall ≤ c.scaled

/-- R80: the dead-zone of a knob: its three ranges, that it never leaves `[0, ADC_MAX]`, that it moves
no conditioned value again, and that it keeps the order of readings. -/
def Obligations.SnapIsTheDeadZone : Prop :=
  ∀ (c : Config) (k : Nat), c.legal = true → k ≤ c.adcMax →
    (k ≤ c.edgeDeadzone → snap c k = 0) ∧
    (c.adcMax - c.edgeDeadzone ≤ k → snap c k = c.adcMax) ∧
    (c.edgeDeadzone < k → k < c.adcMax - c.edgeDeadzone → snap c k = k) ∧
    snap c k ≤ c.adcMax ∧ snap c (snap c k) = snap c k ∧ ∀ j, j ≤ k → snap c j ≤ snap c k

/-- R82: a reading snapped to an extreme is accepted whatever the previous conditioned value was. -/
def Obligations.ExtremesAreAlwaysAccepted : Prop :=
  ∀ (c : Config) (force : Bool) (k : Nat), c.legal = true → k ≤ c.adcMax →
    acceptKnob c force 0 (snap c k) = 0 ∧ acceptKnob c force c.adcMax (snap c k) = c.adcMax

/-- R47, R84: in every legal configuration the period ROM starts at the slowest period of its range,
ends at the fastest, never increases along the knob, and stays between the two. -/
def Obligations.PeriodRomFallsFromSlowestToFastest : Prop :=
  ∀ (c : Config) (high : Bool), c.legal = true →
    periodRom c high 0 = (if high then c.highSlowest else c.lowSlowest) ∧
    periodRom c high c.adcMax = (if high then c.highFastest else c.lowFastest) ∧
    (∀ j k, j ≤ k → k ≤ c.adcMax → periodRom c high k ≤ periodRom c high j) ∧
    ∀ k, k ≤ c.adcMax →
      (if high then c.highFastest else c.lowFastest) ≤ periodRom c high k ∧
      periodRom c high k ≤ (if high then c.highSlowest else c.lowSlowest) ∧
      c.highFastest ≤ periodRom c high k ∧ 1 ≤ periodRom c high k

/-- R49: the clock-ratio ROM's closed form, its ends and its middle, and its two monotone halves. -/
def Obligations.CoefficientTableIsSymmetric : Prop :=
  ∀ c : Config, 1 ≤ c.nRatio →
    (∀ i : Nat, (coefRom c i : Int) = |(i : Int) - ((c.nRatio : Int) - 1)| + 1) ∧
    coefRom c 0 = c.nRatio ∧ coefRom c (2 * c.nRatio - 2) = c.nRatio ∧
    coefRom c (c.nRatio - 1) = 1 ∧
    (∀ i j, i ≤ j → j ≤ c.nRatio - 1 → coefRom c j ≤ coefRom c i) ∧
    ∀ i j, c.nRatio - 1 ≤ i → i ≤ j → coefRom c i ≤ coefRom c j

/-- R86, R87(a), R7 item 11: the index is always an entry of the table; the knob's lower half selects
only multiply-side entries and its upper half only divide-side entries, so the period is the one that
comparing the index with the unity entry would give. -/
def Obligations.TheTwoReadingsOfLowerHalfAgree : Prop :=
  ∀ (c : Config) (f cp : Nat), c.legal = true → f ≤ c.adcMax →
    coefIndex c f ≤ c.tableSize - 1 ∧
    (f < (c.adcMax + 1) / 2 → coefIndex c f ≤ c.nRatio - 1) ∧
    ((c.adcMax + 1) / 2 ≤ f → c.nRatio - 1 ≤ coefIndex c f) ∧
    clockedPeriod c f cp =
      clamp (if coefIndex c f < c.nRatio - 1 then cp * coefRom c (coefIndex c f)
        else cp / coefRom c (coefIndex c f)) c.highFastest c.lowSlowest

/-- R87, consequences: the clocked period is in `[HIGH_FASTEST, LOW_SLOWEST]`, and for a fixed clock
period it never increases along the knob. -/
def Obligations.ClockedPeriodFallsAlongTheKnob : Prop :=
  ∀ (c : Config) (f g cp : Nat), c.legal = true → f ≤ g → g ≤ c.adcMax →
    clockedPeriod c g cp ≤ clockedPeriod c f cp ∧
    c.highFastest ≤ clockedPeriod c g cp ∧ clockedPeriod c f cp ≤ c.lowSlowest

/-- R89 with R80, R81, R83, R84, R87, R88: `PCALC`, the word 0x50, in every state. -/
def Obligations.PcalcRecomputesExactlyOnAChange : Prop :=
  decode 0b01010000#8 = .operation .pcalc ∧ ∀ s : State,
    let c := s.cfg
    let e := s.inClkActive && decide (c.minClockPeriod < s.inClkPeriod)
    let f := acceptKnob c s.pcForce (snap c s.inKnobFreq) s.lastFreq
    let d := acceptKnob c s.pcForce (snap c s.inKnobDuty) s.lastDuty
    let changed := s.pcForce = true ∨ f ≠ s.lastFreq ∨ d ≠ s.lastDuty ∨
      s.highRange ≠ s.lastRange ∨ e ≠ s.lastClocked ∨ (e = true ∧ s.inClkPeriod ≠ s.lastClkper)
    let per := if e then clockedPeriod c f s.inClkPeriod else periodRom c s.highRange f
    let dv := clamp d c.dutyMin c.dutyMax
    ∃ t, exec .pcalc s = .next t ∧ (¬changed → t = s) ∧
      (changed → t = { s with
        stageInc := incPair c per dv, stageValid := true, period := per, dutyCycle := dv,
        lastFreq := f, lastDuty := d, lastRange := s.highRange, lastClocked := e,
        lastClkper := if e then s.inClkPeriod else s.lastClkper, pcForce := false })

/-- R83, R26: skipping a recomputation loses nothing: after every `PCALC` the period, the duty and the
staged pair are those of the inputs it sampled, whether it recomputed or not. -/
def Obligations.ChangeDetectionLosesNothing : Prop :=
  ∀ s : State, ObservedAgree s →
    ∃ t, exec .pcalc s = .next t ∧
      t.period = targetPeriod s.cfg s.ext s.highRange s.acceptedFreq s.inClkPeriod ∧
      t.dutyCycle = dutyValue s.cfg s.acceptedDuty ∧
      t.stageInc = incPair s.cfg t.period t.dutyCycle

/-- R82 and the document's scenarios A and B: a knob within the dead-zone of an end reaches that end's
period, whatever the knob was before. -/
def Obligations.KnobEndsReachThePeriodEnds : Prop :=
  ∀ s : State, s.cfg.legal = true → ObservedAgree s → s.ext = false →
    ∃ t, exec .pcalc s = .next t ∧
      (s.inKnobFreq ≤ s.cfg.edgeDeadzone →
        t.period = if s.highRange then s.cfg.highSlowest else s.cfg.lowSlowest) ∧
      (s.cfg.adcMax - s.cfg.edgeDeadzone ≤ s.inKnobFreq →
        t.period = if s.highRange then s.cfg.highFastest else s.cfg.lowFastest)

/-- R90: `COMMIT`, the word 0x60, publishes both elements of the staged pair in one operation, and
does nothing when none is staged. -/
def Obligations.CommitPublishesThePairAsAWhole : Prop :=
  decode 0b01100000#8 = .operation .commit ∧ ∀ s : State,
    (s.stageValid = true →
      exec .commit s = .next { s with increment := s.stageInc, stageValid := false }) ∧
    (s.stageValid = false → exec .commit s = .next s)

/-- R126: a `TICK` before a `PCALC` and a `TICK` after it leave the same state, events included. -/
def Obligations.TickAndPcalcCommute : Prop :=
  ∀ s t u : State, exec .tick s = .next t → exec .pcalc s = .next u →
    ∃ v, exec .pcalc t = .next v ∧ exec .tick u = .next v

/-- R109: a `TICK` that pre-empts the poll context is transparent to it: a poll operation executed
after the `TICK` leaves every element but the tick's own and the event sequence as it would have left
it without the `TICK`. -/
def Obligations.TickIsTransparentToThePollContext : Prop :=
  ∀ (i : Instr) (s t u v : State), (∃ k, i = .swchk k) ∨ i = .rauto ∨ i = .pcalc ∨ i = .commit →
    exec .tick s = .next t → exec i s = .next u → exec i t = .next v →
      v = { u with
        phase := v.phase, rising := v.rising, sampleQ := v.sampleQ, events := v.events } ∧
      v.phase = t.phase ∧ v.rising = t.rising ∧ v.sampleQ = t.sampleQ ∧
      notifications v.events = notifications u.events
end

