-- ==== Sys2Proof/Laws/Config.lean ====
section
/-! SUPPORT. What a legal configuration gives (R7), each item as arithmetic, and the small facts about
clamping, division and the ROM rows that later proofs cite. -/

namespace Sys2Proof

variable {c : Config}

/-- Every item of R7 from the check. -/
theorem Config.legal_items (h : c.legal = true) :
    c.item1 = true ∧ c.item2 = true ∧ c.item3 = true ∧ c.item4 = true ∧ c.item5 = true ∧
    c.item6 = true ∧ c.item7 = true ∧ c.item8 = true ∧ c.item9 = true ∧ c.item10 = true ∧
    c.item11 = true := by
  simpa [Config.legal, and_assoc] using h

theorem Config.legal_scaled (h : c.legal = true) : 1 ≤ c.outRes ∧ c.scaled ≤ c.maxW := by
  simpa [Config.item1] using (Config.legal_items h).1

theorem Config.legal_phase (h : c.legal = true) : 2 * c.scaled < 2 ^ (c.phaseBits - 1) := by
  simpa [Config.item2] using (Config.legal_items h).2.1

theorem Config.legal_adcBits (h : c.legal = true) : 4 ≤ c.adcBits := by
  simpa [Config.item3] using (Config.legal_items h).2.2.1

theorem Config.legal_table (h : c.legal = true) : 1 ≤ c.nRatio ∧ c.tableSize ≤ c.adcMax := by
  simpa [Config.item4] using (Config.legal_items h).2.2.2.1

theorem Config.legal_tickInterval (h : c.legal = true) : 1 ≤ c.tickInterval := by
  simpa [Config.item5] using (Config.legal_items h).2.2.2.2.1

theorem Config.legal_periods (h : c.legal = true) :
    1 ≤ c.highFastest ∧ c.highFastest ≤ c.highSlowest ∧ c.highSlowest ≤ c.lowFastest ∧
    c.lowFastest ≤ c.lowSlowest ∧ c.lowSlowest ≤ c.maxW := by
  simpa [Config.item6, and_assoc] using (Config.legal_items h).2.2.2.2.2.1

theorem Config.legal_knob (h : c.legal = true) :
    c.knobHyst ≤ c.edgeDeadzone ∧ 2 * c.edgeDeadzone < c.adcMax := by
  simpa [Config.item7] using (Config.legal_items h).2.2.2.2.2.2.1

theorem Config.legal_debounce (h : c.legal = true) :
    1 ≤ c.debounceMs ∧ c.debounceMs < 2 ^ (c.msBits - 1) := by
  simpa [Config.item9] using (Config.legal_items h).2.2.2.2.2.2.2.2.1

theorem Config.legal_divideFirst (h : c.legal = true) :
    c.lowSlowest / c.adcMax * c.dutyMax ≤ c.maxW := by
  simpa [Config.item10] using (Config.legal_items h).2.2.2.2.2.2.2.2.2.1

theorem Config.legal_unityBand (h : c.legal = true) :
    (c.nRatio - 1) * (c.adcMax / c.tableSize) ≤ (c.adcMax + 1) / 2 ∧
    (c.adcMax + 1) / 2 ≤ c.nRatio * (c.adcMax / c.tableSize) := by
  simpa [Config.item11] using (Config.legal_items h).2.2.2.2.2.2.2.2.2.2

/-- One row of the period ROM meets R47. -/
theorem Config.legal_row (h : c.legal = true) (high : Bool) :
    (c.ptabRow high).length = c.adcMax + 1 ∧ (c.ptabRow high)[0]? = some (c.slowest high) ∧
    (c.ptabRow high)[c.adcMax]? = some (c.fastest high) ∧
    nonIncreasing (c.ptabRow high) = true ∧ ∀ v ∈ c.ptabRow high, 1 ≤ v := by
  have h8 : c.rowLegal false = true ∧ c.rowLegal true = true := by
    simpa [Config.item8] using (Config.legal_items h).2.2.2.2.2.2.2.1
  have hr : c.rowLegal high = true := by cases high; exacts [h8.1, h8.2]
  simpa [Config.rowLegal, and_assoc] using hr

theorem Config.legal_adcMax (h : c.legal = true) : 15 ≤ c.adcMax := by
  have : 2 ^ 4 ≤ 2 ^ c.adcBits := Nat.pow_le_pow_right (by omega) (Config.legal_adcBits h)
  simp only [Config.adcMax]
  omega

theorem Config.legal_scaled_pos (h : c.legal = true) : 1 ≤ c.scaled :=
  Nat.mul_pos (Config.legal_scaled h).1 (Nat.pos_of_ne_zero (by simp))

theorem Config.legal_duty (h : c.legal = true) :
    1 ≤ c.dutyMin ∧ c.dutyMin ≤ c.resetDuty ∧ c.resetDuty ≤ c.dutyMax ∧ c.dutyMax < c.adcMax := by
  have := Config.legal_adcMax h
  simp only [Config.dutyMin, Config.resetDuty, Config.dutyMax]
  omega

theorem Config.maxW_lt (c : Config) : c.maxW < 2 ^ c.workBits := by
  have : 0 < 2 ^ c.workBits := Nat.pos_of_ne_zero (by simp)
  simp only [Config.maxW]
  omega

theorem Config.adcMax_lt (c : Config) : c.adcMax < 2 ^ c.adcBits := by
  have : 0 < 2 ^ c.adcBits := Nat.pos_of_ne_zero (by simp)
  simp only [Config.adcMax]
  omega

/-! ### clamping -/

theorem le_clamp {v lo hi : Nat} (h : lo ≤ hi) : lo ≤ clamp v lo hi := by
  unfold clamp; split <;> [rfl; (split <;> omega)]

theorem clamp_le {v lo hi : Nat} (h : lo ≤ hi) : clamp v lo hi ≤ hi := by
  unfold clamp; split <;> [exact h; (split <;> omega)]

theorem clamp_mono {v w lo hi : Nat} (h : v ≤ w) : clamp v lo hi ≤ clamp w lo hi ∨ hi < lo := by
  unfold clamp; split <;> split <;> (try split) <;> (try split) <;> omega

theorem clamp_of_le {v hi : Nat} (h : v ≤ hi) : clamp v 0 hi = v := by
  unfold clamp; split <;> [omega; (split <;> omega)]

/-! ### ROM rows -/

theorem nonIncreasing_tail {a : Nat} {l : List Nat} (h : nonIncreasing (a :: l) = true) :
    nonIncreasing l = true := by
  simp only [nonIncreasing, Bool.and_eq_true] at h
  exact h.2

/-- In a non-increasing row a later entry is no larger than an earlier one. -/
theorem nonIncreasing_getElem {l : List Nat} (h : nonIncreasing l = true) :
    ∀ {j k : Nat} {v w : Nat}, j ≤ k → l[j]? = some v → l[k]? = some w → w ≤ v := by
  induction l with
  | nil => intro j k v w _ hj; simp at hj
  | cons a l ih =>
    have step : ∀ {k w : Nat}, (a :: l)[k]? = some w → w ≤ a := by
      intro k
      induction k with
      | zero => intro w hw; simp only [List.getElem?_cons_zero, Option.some.injEq] at hw; omega
      | succ k ihk =>
        intro w hw
        cases l with
        | nil => simp at hw
        | cons b l =>
          have hab : b ≤ a := by
            simp only [nonIncreasing, List.head?_cons, Option.all_some, Bool.and_eq_true,
              decide_eq_true_eq] at h
            exact h.1
          have : w ≤ b := ih (nonIncreasing_tail h) (j := 0) (k := k) (Nat.zero_le _) (by simp)
            (by simpa using hw)
          omega
    intro j k v w hjk hj hk
    cases j with
    | zero =>
      simp only [List.getElem?_cons_zero, Option.some.injEq] at hj
      exact hj ▸ step hk
    | succ j =>
      cases k with
      | zero => omega
      | succ k =>
        exact ih (nonIncreasing_tail h) (j := j) (k := k) (by omega) (by simpa using hj) (by simpa using hk)

/-- In a legal configuration a ROM read at an `ADC_BITS`-bit index is an entry of the row (R46). -/
theorem Machine.periodRom_getElem (h : c.legal = true) (high : Bool) {k : Nat} (hk : k ≤ c.adcMax) :
    (c.ptabRow high)[k]? = some (Machine.periodRom c high k) := by
  have hl := (Config.legal_row h high).1
  have : (c.ptabRow high)[k]? = some ((c.ptabRow high)[k]'(by omega)) :=
    List.getElem?_eq_getElem (by omega)
  unfold Machine.periodRom
  rw [this]

end Sys2Proof
end

