-- ==== Sys2Proof/Laws/State.lean ====
section
/-! SUPPORT. One lemma per field per update of the state, each true by `rfl`. -/

namespace Sys2Proof.Machine

variable (s : State)

/-! ### `emit E` (R11) -/

@[simp] theorem State.emit_phase (e : Event) : (s.emit e).phase = s.phase := rfl
@[simp] theorem State.emit_rising (e : Event) : (s.emit e).rising = s.rising := rfl
@[simp] theorem State.emit_increment (e : Event) : (s.emit e).increment = s.increment := rfl
@[simp] theorem State.emit_stageInc (e : Event) : (s.emit e).stageInc = s.stageInc := rfl
@[simp] theorem State.emit_stageValid (e : Event) : (s.emit e).stageValid = s.stageValid := rfl
@[simp] theorem State.emit_period (e : Event) : (s.emit e).period = s.period := rfl
@[simp] theorem State.emit_dutyCycle (e : Event) : (s.emit e).dutyCycle = s.dutyCycle := rfl
@[simp] theorem State.emit_highRange (e : Event) : (s.emit e).highRange = s.highRange := rfl
@[simp] theorem State.emit_triangleSelected (e : Event) :
    (s.emit e).triangleSelected = s.triangleSelected :=
  rfl
@[simp] theorem State.emit_sampleQ (e : Event) : (s.emit e).sampleQ = s.sampleQ := rfl
@[simp] theorem State.emit_rsPrevClocked (e : Event) :
    (s.emit e).rsPrevClocked = s.rsPrevClocked :=
  rfl
@[simp] theorem State.emit_lastFreq (e : Event) : (s.emit e).lastFreq = s.lastFreq := rfl
@[simp] theorem State.emit_lastDuty (e : Event) : (s.emit e).lastDuty = s.lastDuty := rfl
@[simp] theorem State.emit_lastRange (e : Event) : (s.emit e).lastRange = s.lastRange := rfl
@[simp] theorem State.emit_lastClocked (e : Event) : (s.emit e).lastClocked = s.lastClocked := rfl
@[simp] theorem State.emit_lastClkper (e : Event) : (s.emit e).lastClkper = s.lastClkper := rfl
@[simp] theorem State.emit_pcForce (e : Event) : (s.emit e).pcForce = s.pcForce := rfl
@[simp] theorem State.emit_sw0 (e : Event) : (s.emit e).sw0 = s.sw0 := rfl
@[simp] theorem State.emit_sw1 (e : Event) : (s.emit e).sw1 = s.sw1 := rfl
@[simp] theorem State.emit_events (e : Event) : (s.emit e).events = s.events ++ [e] := rfl
@[simp] theorem State.emit_ports (e : Event) : (s.emit e).ports = s.ports := rfl
@[simp] theorem State.emit_pstep (e : Event) : (s.emit e).pstep = s.pstep := rfl
@[simp] theorem State.emit_arrivals (e : Event) : (s.emit e).arrivals = s.arrivals := rfl
@[simp] theorem State.emit_cfg (e : Event) : (s.emit e).cfg = s.cfg := rfl

/-! ### `write(v)` (R99) -/

@[simp] theorem State.write_phase (v : Nat) : (s.write v).phase = s.phase := rfl
@[simp] theorem State.write_rising (v : Nat) : (s.write v).rising = s.rising := rfl
@[simp] theorem State.write_increment (v : Nat) : (s.write v).increment = s.increment := rfl
@[simp] theorem State.write_stageInc (v : Nat) : (s.write v).stageInc = s.stageInc := rfl
@[simp] theorem State.write_stageValid (v : Nat) : (s.write v).stageValid = s.stageValid := rfl
@[simp] theorem State.write_period (v : Nat) : (s.write v).period = s.period := rfl
@[simp] theorem State.write_dutyCycle (v : Nat) : (s.write v).dutyCycle = s.dutyCycle := rfl
@[simp] theorem State.write_highRange (v : Nat) : (s.write v).highRange = s.highRange := rfl
@[simp] theorem State.write_triangleSelected (v : Nat) :
    (s.write v).triangleSelected = s.triangleSelected :=
  rfl
@[simp] theorem State.write_sampleQ (v : Nat) : (s.write v).sampleQ = v := rfl
@[simp] theorem State.write_rsPrevClocked (v : Nat) :
    (s.write v).rsPrevClocked = s.rsPrevClocked :=
  rfl
@[simp] theorem State.write_lastFreq (v : Nat) : (s.write v).lastFreq = s.lastFreq := rfl
@[simp] theorem State.write_lastDuty (v : Nat) : (s.write v).lastDuty = s.lastDuty := rfl
@[simp] theorem State.write_lastRange (v : Nat) : (s.write v).lastRange = s.lastRange := rfl
@[simp] theorem State.write_lastClocked (v : Nat) : (s.write v).lastClocked = s.lastClocked := rfl
@[simp] theorem State.write_lastClkper (v : Nat) : (s.write v).lastClkper = s.lastClkper := rfl
@[simp] theorem State.write_pcForce (v : Nat) : (s.write v).pcForce = s.pcForce := rfl
@[simp] theorem State.write_sw0 (v : Nat) : (s.write v).sw0 = s.sw0 := rfl
@[simp] theorem State.write_sw1 (v : Nat) : (s.write v).sw1 = s.sw1 := rfl
@[simp] theorem State.write_events (v : Nat) :
    (s.write v).events = s.events ++ [.sampleWrite v] :=
  rfl
@[simp] theorem State.write_ports (v : Nat) : (s.write v).ports = s.ports := rfl
@[simp] theorem State.write_pstep (v : Nat) : (s.write v).pstep = s.pstep := rfl
@[simp] theorem State.write_arrivals (v : Nat) : (s.write v).arrivals = s.arrivals := rfl
@[simp] theorem State.write_cfg (v : Nat) : (s.write v).cfg = s.cfg := rfl

/-! ### the phase and the direction (R50) -/

@[simp] theorem State.setWave_phase (p : Int) (r : Bool) : (s.setWave p r).phase = p := rfl
@[simp] theorem State.setWave_rising (p : Int) (r : Bool) : (s.setWave p r).rising = r := rfl
@[simp] theorem State.setWave_increment (p : Int) (r : Bool) :
    (s.setWave p r).increment = s.increment :=
  rfl
@[simp] theorem State.setWave_stageInc (p : Int) (r : Bool) :
    (s.setWave p r).stageInc = s.stageInc :=
  rfl
@[simp] theorem State.setWave_stageValid (p : Int) (r : Bool) :
    (s.setWave p r).stageValid = s.stageValid :=
  rfl
@[simp] theorem State.setWave_period (p : Int) (r : Bool) : (s.setWave p r).period = s.period := rfl
@[simp] theorem State.setWave_dutyCycle (p : Int) (r : Bool) :
    (s.setWave p r).dutyCycle = s.dutyCycle :=
  rfl
@[simp] theorem State.setWave_highRange (p : Int) (r : Bool) :
    (s.setWave p r).highRange = s.highRange :=
  rfl
@[simp] theorem State.setWave_triangleSelected (p : Int) (r : Bool) :
    (s.setWave p r).triangleSelected = s.triangleSelected :=
  rfl
@[simp] theorem State.setWave_sampleQ (p : Int) (r : Bool) :
    (s.setWave p r).sampleQ = s.sampleQ :=
  rfl
@[simp] theorem State.setWave_rsPrevClocked (p : Int) (r : Bool) :
    (s.setWave p r).rsPrevClocked = s.rsPrevClocked :=
  rfl
@[simp] theorem State.setWave_lastFreq (p : Int) (r : Bool) :
    (s.setWave p r).lastFreq = s.lastFreq :=
  rfl
@[simp] theorem State.setWave_lastDuty (p : Int) (r : Bool) :
    (s.setWave p r).lastDuty = s.lastDuty :=
  rfl
@[simp] theorem State.setWave_lastRange (p : Int) (r : Bool) :
    (s.setWave p r).lastRange = s.lastRange :=
  rfl
@[simp] theorem State.setWave_lastClocked (p : Int) (r : Bool) :
    (s.setWave p r).lastClocked = s.lastClocked :=
  rfl
@[simp] theorem State.setWave_lastClkper (p : Int) (r : Bool) :
    (s.setWave p r).lastClkper = s.lastClkper :=
  rfl
@[simp] theorem State.setWave_pcForce (p : Int) (r : Bool) :
    (s.setWave p r).pcForce = s.pcForce :=
  rfl
@[simp] theorem State.setWave_sw0 (p : Int) (r : Bool) : (s.setWave p r).sw0 = s.sw0 := rfl
@[simp] theorem State.setWave_sw1 (p : Int) (r : Bool) : (s.setWave p r).sw1 = s.sw1 := rfl
@[simp] theorem State.setWave_events (p : Int) (r : Bool) : (s.setWave p r).events = s.events := rfl
@[simp] theorem State.setWave_ports (p : Int) (r : Bool) : (s.setWave p r).ports = s.ports := rfl
@[simp] theorem State.setWave_pstep (p : Int) (r : Bool) : (s.setWave p r).pstep = s.pstep := rfl
@[simp] theorem State.setWave_arrivals (p : Int) (r : Bool) :
    (s.setWave p r).arrivals = s.arrivals :=
  rfl
@[simp] theorem State.setWave_cfg (p : Int) (r : Bool) : (s.setWave p r).cfg = s.cfg := rfl

/-! ### `SHAPE(t)` (R101) -/

@[simp] theorem State.shape_phase (t : Bool) : (s.shape t).phase = s.phase := rfl
@[simp] theorem State.shape_rising (t : Bool) : (s.shape t).rising = s.rising := rfl
@[simp] theorem State.shape_increment (t : Bool) : (s.shape t).increment = s.increment := rfl
@[simp] theorem State.shape_stageInc (t : Bool) : (s.shape t).stageInc = s.stageInc := rfl
@[simp] theorem State.shape_stageValid (t : Bool) : (s.shape t).stageValid = s.stageValid := rfl
@[simp] theorem State.shape_period (t : Bool) : (s.shape t).period = s.period := rfl
@[simp] theorem State.shape_dutyCycle (t : Bool) : (s.shape t).dutyCycle = s.dutyCycle := rfl
@[simp] theorem State.shape_highRange (t : Bool) : (s.shape t).highRange = s.highRange := rfl
@[simp] theorem State.shape_triangleSelected (t : Bool) : (s.shape t).triangleSelected = t := rfl
@[simp] theorem State.shape_sampleQ (t : Bool) : (s.shape t).sampleQ = s.sampleQ := rfl
@[simp] theorem State.shape_rsPrevClocked (t : Bool) :
    (s.shape t).rsPrevClocked = s.rsPrevClocked :=
  rfl
@[simp] theorem State.shape_lastFreq (t : Bool) : (s.shape t).lastFreq = s.lastFreq := rfl
@[simp] theorem State.shape_lastDuty (t : Bool) : (s.shape t).lastDuty = s.lastDuty := rfl
@[simp] theorem State.shape_lastRange (t : Bool) : (s.shape t).lastRange = s.lastRange := rfl
@[simp] theorem State.shape_lastClocked (t : Bool) : (s.shape t).lastClocked = s.lastClocked := rfl
@[simp] theorem State.shape_lastClkper (t : Bool) : (s.shape t).lastClkper = s.lastClkper := rfl
@[simp] theorem State.shape_pcForce (t : Bool) : (s.shape t).pcForce = s.pcForce := rfl
@[simp] theorem State.shape_sw0 (t : Bool) : (s.shape t).sw0 = s.sw0 := rfl
@[simp] theorem State.shape_sw1 (t : Bool) : (s.shape t).sw1 = s.sw1 := rfl
@[simp] theorem State.shape_events (t : Bool) : (s.shape t).events = s.events := rfl
@[simp] theorem State.shape_ports (t : Bool) : (s.shape t).ports = s.ports := rfl
@[simp] theorem State.shape_pstep (t : Bool) : (s.shape t).pstep = s.pstep := rfl
@[simp] theorem State.shape_arrivals (t : Bool) : (s.shape t).arrivals = s.arrivals := rfl
@[simp] theorem State.shape_cfg (t : Bool) : (s.shape t).cfg = s.cfg := rfl

/-! ### the commit (R90) -/

@[simp] theorem State.publish_phase : s.publish.phase = s.phase := rfl
@[simp] theorem State.publish_rising : s.publish.rising = s.rising := rfl
@[simp] theorem State.publish_increment : s.publish.increment = s.stageInc := rfl
@[simp] theorem State.publish_stageInc : s.publish.stageInc = s.stageInc := rfl
@[simp] theorem State.publish_stageValid : s.publish.stageValid = false := rfl
@[simp] theorem State.publish_period : s.publish.period = s.period := rfl
@[simp] theorem State.publish_dutyCycle : s.publish.dutyCycle = s.dutyCycle := rfl
@[simp] theorem State.publish_highRange : s.publish.highRange = s.highRange := rfl
@[simp] theorem State.publish_triangleSelected :
    s.publish.triangleSelected = s.triangleSelected :=
  rfl
@[simp] theorem State.publish_sampleQ : s.publish.sampleQ = s.sampleQ := rfl
@[simp] theorem State.publish_rsPrevClocked : s.publish.rsPrevClocked = s.rsPrevClocked := rfl
@[simp] theorem State.publish_lastFreq : s.publish.lastFreq = s.lastFreq := rfl
@[simp] theorem State.publish_lastDuty : s.publish.lastDuty = s.lastDuty := rfl
@[simp] theorem State.publish_lastRange : s.publish.lastRange = s.lastRange := rfl
@[simp] theorem State.publish_lastClocked : s.publish.lastClocked = s.lastClocked := rfl
@[simp] theorem State.publish_lastClkper : s.publish.lastClkper = s.lastClkper := rfl
@[simp] theorem State.publish_pcForce : s.publish.pcForce = s.pcForce := rfl
@[simp] theorem State.publish_sw0 : s.publish.sw0 = s.sw0 := rfl
@[simp] theorem State.publish_sw1 : s.publish.sw1 = s.sw1 := rfl
@[simp] theorem State.publish_events : s.publish.events = s.events := rfl
@[simp] theorem State.publish_ports : s.publish.ports = s.ports := rfl
@[simp] theorem State.publish_pstep : s.publish.pstep = s.pstep := rfl
@[simp] theorem State.publish_arrivals : s.publish.arrivals = s.arrivals := rfl
@[simp] theorem State.publish_cfg : s.publish.cfg = s.cfg := rfl

/-! ### placing a command word -/

@[simp] theorem State.placeWord_phase (w : CmdWord) : (s.placeWord w).phase = s.phase := rfl
@[simp] theorem State.placeWord_rising (w : CmdWord) : (s.placeWord w).rising = s.rising := rfl
@[simp] theorem State.placeWord_increment (w : CmdWord) :
    (s.placeWord w).increment = s.increment :=
  rfl
@[simp] theorem State.placeWord_stageInc (w : CmdWord) :
    (s.placeWord w).stageInc = s.stageInc :=
  rfl
@[simp] theorem State.placeWord_stageValid (w : CmdWord) :
    (s.placeWord w).stageValid = s.stageValid :=
  rfl
@[simp] theorem State.placeWord_period (w : CmdWord) : (s.placeWord w).period = s.period := rfl
@[simp] theorem State.placeWord_dutyCycle (w : CmdWord) :
    (s.placeWord w).dutyCycle = s.dutyCycle :=
  rfl
@[simp] theorem State.placeWord_highRange (w : CmdWord) :
    (s.placeWord w).highRange = s.highRange :=
  rfl
@[simp] theorem State.placeWord_triangleSelected (w : CmdWord) :
    (s.placeWord w).triangleSelected = s.triangleSelected :=
  rfl
@[simp] theorem State.placeWord_sampleQ (w : CmdWord) : (s.placeWord w).sampleQ = s.sampleQ := rfl
@[simp] theorem State.placeWord_rsPrevClocked (w : CmdWord) :
    (s.placeWord w).rsPrevClocked = s.rsPrevClocked :=
  rfl
@[simp] theorem State.placeWord_lastFreq (w : CmdWord) :
    (s.placeWord w).lastFreq = s.lastFreq :=
  rfl
@[simp] theorem State.placeWord_lastDuty (w : CmdWord) :
    (s.placeWord w).lastDuty = s.lastDuty :=
  rfl
@[simp] theorem State.placeWord_lastRange (w : CmdWord) :
    (s.placeWord w).lastRange = s.lastRange :=
  rfl
@[simp] theorem State.placeWord_lastClocked (w : CmdWord) :
    (s.placeWord w).lastClocked = s.lastClocked :=
  rfl
@[simp] theorem State.placeWord_lastClkper (w : CmdWord) :
    (s.placeWord w).lastClkper = s.lastClkper :=
  rfl
@[simp] theorem State.placeWord_pcForce (w : CmdWord) : (s.placeWord w).pcForce = s.pcForce := rfl
@[simp] theorem State.placeWord_sw0 (w : CmdWord) : (s.placeWord w).sw0 = s.sw0 := rfl
@[simp] theorem State.placeWord_sw1 (w : CmdWord) : (s.placeWord w).sw1 = s.sw1 := rfl
@[simp] theorem State.placeWord_events (w : CmdWord) : (s.placeWord w).events = s.events := rfl
@[simp] theorem State.placeWord_ports (w : CmdWord) : (s.placeWord w).ports = s.ports := rfl
@[simp] theorem State.placeWord_pstep (w : CmdWord) : (s.placeWord w).pstep = s.pstep := rfl
@[simp] theorem State.placeWord_arrivals (w : CmdWord) :
    (s.placeWord w).arrivals = .command w :: s.arrivals :=
  rfl
@[simp] theorem State.placeWord_cfg (w : CmdWord) : (s.placeWord w).cfg = s.cfg := rfl

/-! ### a recomputation (R89) -/

@[simp] theorem State.recompute_phase (f d : Nat) (e : Bool) (cp : Nat) :
    (s.recompute f d e cp).phase = s.phase :=
  rfl
@[simp] theorem State.recompute_rising (f d : Nat) (e : Bool) (cp : Nat) :
    (s.recompute f d e cp).rising = s.rising :=
  rfl
@[simp] theorem State.recompute_increment (f d : Nat) (e : Bool) (cp : Nat) :
    (s.recompute f d e cp).increment = s.increment :=
  rfl
@[simp] theorem State.recompute_stageInc (f d : Nat) (e : Bool) (cp : Nat) :
    (s.recompute f d e cp).stageInc = incPair s.cfg (targetPeriod s.cfg e s.highRange f cp) (dutyValue s.cfg d) :=
  rfl
@[simp] theorem State.recompute_stageValid (f d : Nat) (e : Bool) (cp : Nat) :
    (s.recompute f d e cp).stageValid = true :=
  rfl
@[simp] theorem State.recompute_period (f d : Nat) (e : Bool) (cp : Nat) :
    (s.recompute f d e cp).period = targetPeriod s.cfg e s.highRange f cp :=
  rfl
@[simp] theorem State.recompute_dutyCycle (f d : Nat) (e : Bool) (cp : Nat) :
    (s.recompute f d e cp).dutyCycle = dutyValue s.cfg d :=
  rfl
@[simp] theorem State.recompute_highRange (f d : Nat) (e : Bool) (cp : Nat) :
    (s.recompute f d e cp).highRange = s.highRange :=
  rfl
@[simp] theorem State.recompute_triangleSelected (f d : Nat) (e : Bool) (cp : Nat) :
    (s.recompute f d e cp).triangleSelected = s.triangleSelected :=
  rfl
@[simp] theorem State.recompute_sampleQ (f d : Nat) (e : Bool) (cp : Nat) :
    (s.recompute f d e cp).sampleQ = s.sampleQ :=
  rfl
@[simp] theorem State.recompute_rsPrevClocked (f d : Nat) (e : Bool) (cp : Nat) :
    (s.recompute f d e cp).rsPrevClocked = s.rsPrevClocked :=
  rfl
@[simp] theorem State.recompute_lastFreq (f d : Nat) (e : Bool) (cp : Nat) :
    (s.recompute f d e cp).lastFreq = f :=
  rfl
@[simp] theorem State.recompute_lastDuty (f d : Nat) (e : Bool) (cp : Nat) :
    (s.recompute f d e cp).lastDuty = d :=
  rfl
@[simp] theorem State.recompute_lastRange (f d : Nat) (e : Bool) (cp : Nat) :
    (s.recompute f d e cp).lastRange = s.highRange :=
  rfl
@[simp] theorem State.recompute_lastClocked (f d : Nat) (e : Bool) (cp : Nat) :
    (s.recompute f d e cp).lastClocked = e :=
  rfl
@[simp] theorem State.recompute_lastClkper (f d : Nat) (e : Bool) (cp : Nat) :
    (s.recompute f d e cp).lastClkper = (if e then cp else s.lastClkper) :=
  rfl
@[simp] theorem State.recompute_pcForce (f d : Nat) (e : Bool) (cp : Nat) :
    (s.recompute f d e cp).pcForce = false :=
  rfl
@[simp] theorem State.recompute_sw0 (f d : Nat) (e : Bool) (cp : Nat) :
    (s.recompute f d e cp).sw0 = s.sw0 :=
  rfl
@[simp] theorem State.recompute_sw1 (f d : Nat) (e : Bool) (cp : Nat) :
    (s.recompute f d e cp).sw1 = s.sw1 :=
  rfl
@[simp] theorem State.recompute_events (f d : Nat) (e : Bool) (cp : Nat) :
    (s.recompute f d e cp).events = s.events :=
  rfl
@[simp] theorem State.recompute_ports (f d : Nat) (e : Bool) (cp : Nat) :
    (s.recompute f d e cp).ports = s.ports :=
  rfl
@[simp] theorem State.recompute_pstep (f d : Nat) (e : Bool) (cp : Nat) :
    (s.recompute f d e cp).pstep = s.pstep :=
  rfl
@[simp] theorem State.recompute_arrivals (f d : Nat) (e : Bool) (cp : Nat) :
    (s.recompute f d e cp).arrivals = s.arrivals :=
  rfl
@[simp] theorem State.recompute_cfg (f d : Nat) (e : Bool) (cp : Nat) :
    (s.recompute f d e cp).cfg = s.cfg :=
  rfl

/-! ### one switch record (R28) -/

@[simp] theorem State.setSw_rangeOverride_phase (w : SwitchState) :
    (s.setSw .rangeOverride w).phase = s.phase := rfl
@[simp] theorem State.setSw_rangeOverride_rising (w : SwitchState) :
    (s.setSw .rangeOverride w).rising = s.rising := rfl
@[simp] theorem State.setSw_rangeOverride_increment (w : SwitchState) :
    (s.setSw .rangeOverride w).increment = s.increment := rfl
@[simp] theorem State.setSw_rangeOverride_stageInc (w : SwitchState) :
    (s.setSw .rangeOverride w).stageInc = s.stageInc := rfl
@[simp] theorem State.setSw_rangeOverride_stageValid (w : SwitchState) :
    (s.setSw .rangeOverride w).stageValid = s.stageValid := rfl
@[simp] theorem State.setSw_rangeOverride_period (w : SwitchState) :
    (s.setSw .rangeOverride w).period = s.period := rfl
@[simp] theorem State.setSw_rangeOverride_dutyCycle (w : SwitchState) :
    (s.setSw .rangeOverride w).dutyCycle = s.dutyCycle := rfl
@[simp] theorem State.setSw_rangeOverride_highRange (w : SwitchState) :
    (s.setSw .rangeOverride w).highRange = s.highRange := rfl
@[simp] theorem State.setSw_rangeOverride_triangleSelected (w : SwitchState) :
    (s.setSw .rangeOverride w).triangleSelected = s.triangleSelected := rfl
@[simp] theorem State.setSw_rangeOverride_sampleQ (w : SwitchState) :
    (s.setSw .rangeOverride w).sampleQ = s.sampleQ := rfl
@[simp] theorem State.setSw_rangeOverride_rsPrevClocked (w : SwitchState) :
    (s.setSw .rangeOverride w).rsPrevClocked = s.rsPrevClocked := rfl
@[simp] theorem State.setSw_rangeOverride_lastFreq (w : SwitchState) :
    (s.setSw .rangeOverride w).lastFreq = s.lastFreq := rfl
@[simp] theorem State.setSw_rangeOverride_lastDuty (w : SwitchState) :
    (s.setSw .rangeOverride w).lastDuty = s.lastDuty := rfl
@[simp] theorem State.setSw_rangeOverride_lastRange (w : SwitchState) :
    (s.setSw .rangeOverride w).lastRange = s.lastRange := rfl
@[simp] theorem State.setSw_rangeOverride_lastClocked (w : SwitchState) :
    (s.setSw .rangeOverride w).lastClocked = s.lastClocked := rfl
@[simp] theorem State.setSw_rangeOverride_lastClkper (w : SwitchState) :
    (s.setSw .rangeOverride w).lastClkper = s.lastClkper := rfl
@[simp] theorem State.setSw_rangeOverride_pcForce (w : SwitchState) :
    (s.setSw .rangeOverride w).pcForce = s.pcForce := rfl
@[simp] theorem State.setSw_rangeOverride_sw0 (w : SwitchState) :
    (s.setSw .rangeOverride w).sw0 = w := rfl
@[simp] theorem State.setSw_rangeOverride_sw1 (w : SwitchState) :
    (s.setSw .rangeOverride w).sw1 = s.sw1 := rfl
@[simp] theorem State.setSw_rangeOverride_events (w : SwitchState) :
    (s.setSw .rangeOverride w).events = s.events := rfl
@[simp] theorem State.setSw_rangeOverride_ports (w : SwitchState) :
    (s.setSw .rangeOverride w).ports = s.ports := rfl
@[simp] theorem State.setSw_rangeOverride_pstep (w : SwitchState) :
    (s.setSw .rangeOverride w).pstep = s.pstep := rfl
@[simp] theorem State.setSw_rangeOverride_arrivals (w : SwitchState) :
    (s.setSw .rangeOverride w).arrivals = s.arrivals := rfl
@[simp] theorem State.setSw_rangeOverride_cfg (w : SwitchState) :
    (s.setSw .rangeOverride w).cfg = s.cfg := rfl

@[simp] theorem State.setSw_waveformShape_phase (w : SwitchState) :
    (s.setSw .waveformShape w).phase = s.phase := rfl
@[simp] theorem State.setSw_waveformShape_rising (w : SwitchState) :
    (s.setSw .waveformShape w).rising = s.rising := rfl
@[simp] theorem State.setSw_waveformShape_increment (w : SwitchState) :
    (s.setSw .waveformShape w).increment = s.increment := rfl
@[simp] theorem State.setSw_waveformShape_stageInc (w : SwitchState) :
    (s.setSw .waveformShape w).stageInc = s.stageInc := rfl
@[simp] theorem State.setSw_waveformShape_stageValid (w : SwitchState) :
    (s.setSw .waveformShape w).stageValid = s.stageValid := rfl
@[simp] theorem State.setSw_waveformShape_period (w : SwitchState) :
    (s.setSw .waveformShape w).period = s.period := rfl
@[simp] theorem State.setSw_waveformShape_dutyCycle (w : SwitchState) :
    (s.setSw .waveformShape w).dutyCycle = s.dutyCycle := rfl
@[simp] theorem State.setSw_waveformShape_highRange (w : SwitchState) :
    (s.setSw .waveformShape w).highRange = s.highRange := rfl
@[simp] theorem State.setSw_waveformShape_triangleSelected (w : SwitchState) :
    (s.setSw .waveformShape w).triangleSelected = s.triangleSelected := rfl
@[simp] theorem State.setSw_waveformShape_sampleQ (w : SwitchState) :
    (s.setSw .waveformShape w).sampleQ = s.sampleQ := rfl
@[simp] theorem State.setSw_waveformShape_rsPrevClocked (w : SwitchState) :
    (s.setSw .waveformShape w).rsPrevClocked = s.rsPrevClocked := rfl
@[simp] theorem State.setSw_waveformShape_lastFreq (w : SwitchState) :
    (s.setSw .waveformShape w).lastFreq = s.lastFreq := rfl
@[simp] theorem State.setSw_waveformShape_lastDuty (w : SwitchState) :
    (s.setSw .waveformShape w).lastDuty = s.lastDuty := rfl
@[simp] theorem State.setSw_waveformShape_lastRange (w : SwitchState) :
    (s.setSw .waveformShape w).lastRange = s.lastRange := rfl
@[simp] theorem State.setSw_waveformShape_lastClocked (w : SwitchState) :
    (s.setSw .waveformShape w).lastClocked = s.lastClocked := rfl
@[simp] theorem State.setSw_waveformShape_lastClkper (w : SwitchState) :
    (s.setSw .waveformShape w).lastClkper = s.lastClkper := rfl
@[simp] theorem State.setSw_waveformShape_pcForce (w : SwitchState) :
    (s.setSw .waveformShape w).pcForce = s.pcForce := rfl
@[simp] theorem State.setSw_waveformShape_sw0 (w : SwitchState) :
    (s.setSw .waveformShape w).sw0 = s.sw0 := rfl
@[simp] theorem State.setSw_waveformShape_sw1 (w : SwitchState) :
    (s.setSw .waveformShape w).sw1 = w := rfl
@[simp] theorem State.setSw_waveformShape_events (w : SwitchState) :
    (s.setSw .waveformShape w).events = s.events := rfl
@[simp] theorem State.setSw_waveformShape_ports (w : SwitchState) :
    (s.setSw .waveformShape w).ports = s.ports := rfl
@[simp] theorem State.setSw_waveformShape_pstep (w : SwitchState) :
    (s.setSw .waveformShape w).pstep = s.pstep := rfl
@[simp] theorem State.setSw_waveformShape_arrivals (w : SwitchState) :
    (s.setSw .waveformShape w).arrivals = s.arrivals := rfl
@[simp] theorem State.setSw_waveformShape_cfg (w : SwitchState) :
    (s.setSw .waveformShape w).cfg = s.cfg := rfl

end Sys2Proof.Machine
end

