-- ==== Sys2Proof/Laws/Ops.lean ====
section
/-! SUPPORT. What each shared operation does, said once: an equation with one record update, so that a
proof reads every field of the result off it and never unfolds the operation. -/

namespace Sys2Proof.Machine

variable (s : State)

/-! ### switches -/

@[simp] theorem State.sw_setSw_self (i : SwitchIndex) (w : SwitchState) : (s.setSw i w).sw i = w := by
  cases i <;> rfl

theorem State.sw_setSw_other {i j : SwitchIndex} (h : j ≠ i) (w : SwitchState) :
    (s.setSw i w).sw j = s.sw j := by
  cases i <;> cases j <;> first | rfl | exact absurd rfl h

@[simp] theorem State.setSw_sw (i : SwitchIndex) : s.setSw i (s.sw i) = s := by
  cases i <;> rfl

/-- R71, whole: the range in force becomes `h`, with one event exactly on a change. -/
theorem State.selectRange_eq (h : Bool) :
    s.selectRange h =
      { s with
        highRange := h
        events := s.events ++ if s.highRange = h then [] else [.rangeNotify h] } := by
  unfold State.selectRange
  split
  · next heq => cases s; simp_all
  · rfl

/-- R72, whole. -/
theorem State.rreq_eq (h : Bool) :
    s.rreq h =
      { s with
        highRange := if s.ext then s.highRange else h
        events := s.events ++ if s.ext = true ∨ s.highRange = h then [] else [.rangeNotify h] } := by
  unfold State.rreq
  split
  · next he => simp [he]
  · next he => simp [he, State.selectRange_eq]

/-- The event dispatch of switch 0 (R64, R67): a manual range request if the handle is bound. -/
theorem State.fireEvent_rangeOverride (on : Bool) :
    s.fireEvent .rangeOverride on =
      { s with
        highRange := if s.eventBound .rangeOverride on = true ∧ s.ext = false then on else s.highRange
        events := s.events ++
          if s.eventBound .rangeOverride on = true ∧ s.ext = false ∧ s.highRange ≠ on
          then [.rangeNotify on] else [] } := by
  unfold State.fireEvent State.switchAction
  split
  · next hb =>
    rw [State.rreq_eq]
    cases he : s.ext <;> by_cases hr : s.highRange = on <;> simp [hb, hr]
  · next hb => simp [hb]

/-- The event dispatch of switch 1 (R64, R67): the shape is selected if the handle is bound. -/
theorem State.fireEvent_waveformShape (on : Bool) :
    s.fireEvent .waveformShape on =
      { s with
        triangleSelected := if s.eventBound .waveformShape on then on else s.triangleSelected } := by
  unfold State.fireEvent State.switchAction State.shape
  split <;> rfl

/-- The settled record (R65): the last raw level is the one sampled, and the timer restarts exactly
when it differs from the one before. -/
theorem settle_eq (w : SwitchState) (raw : Bool) (now : Nat) :
    settle w raw now =
      { w with lastRaw := raw, lastChange := if raw = w.lastRaw then w.lastChange else now } := by
  unfold settle
  split
  · next h => cases w; simp_all
  · rfl

theorem accepts_iff (c : Config) (w : SwitchState) (raw : Bool) (now : Nat) :
    accepts c w raw now = true ↔
      c.debounceMs ≤ elapsedMs c now w.lastChange ∧ raw ≠ w.stable := by
  simp [accepts]

/-! ### waveform -/

theorem reflectTop_eq (c : Config) (w : Wave) :
    reflectTop c w =
      { p := if (c.scaled : Int) ≤ w.p then c.scaled - (w.p - c.scaled) else w.p
        rising := if (c.scaled : Int) ≤ w.p then false else w.rising } := by
  unfold reflectTop
  simp only [ge_iff_le]
  split <;> rfl

theorem reflectBottom_eq (w : Wave) :
    reflectBottom w =
      { p := if w.p ≤ 0 then -w.p else w.p, rising := if w.p ≤ 0 then true else w.rising } := by
  unfold reflectBottom
  split <;> rfl

/-- The phase and the direction `TICK` ends with, as one expression in the phase before the tests. -/
theorem State.advance_eq :
    s.advance =
      reflectBottom
        { p := if (s.cfg.scaled : Int) ≤ s.stepped then s.cfg.scaled - (s.stepped - s.cfg.scaled)
            else s.stepped
          rising := if (s.cfg.scaled : Int) ≤ s.stepped then false else s.rising } := by
  unfold State.advance; rw [reflectTop_eq]

/-- R98: one write exactly when the direction is not the one found before. -/
theorem State.writeOnTurn_eq (before : Bool) :
    s.writeOnTurn before =
      { s with
        sampleQ := if s.rising = before then s.sampleQ else pulseLevel s.cfg s.rising
        events := s.events ++
          if s.rising = before then [] else [.sampleWrite (pulseLevel s.cfg s.rising)] } := by
  unfold State.writeOnTurn
  split
  · simp only [List.append_nil]
  · rfl

/-! ### the meanings as one record update each -/

/-- What `TICK` leaves, field by field (R96). -/
theorem execTick_eq :
    execTick s = .next
      { s with
        phase := s.advance.p
        rising := s.advance.rising
        sampleQ :=
          if s.triangleSelected then triSample s.cfg s.advance.p
          else if s.advance.rising = s.rising then s.sampleQ
          else pulseLevel s.cfg s.advance.rising
        events := s.events ++
          if s.triangleSelected then [.sampleWrite (triSample s.cfg s.advance.p)]
          else if s.advance.rising = s.rising then []
          else [.sampleWrite (pulseLevel s.cfg s.advance.rising)] } := by
  cases h : s.triangleSelected <;>
    simp [execTick, h, State.writeOnTurn_eq, State.setWave, State.write, State.emit]

/-- What `RSTPH` leaves, field by field (R100). -/
theorem execRstph_eq :
    execRstph s = .next
      { s with
        phase := 0
        rising := true
        sampleQ :=
          if s.triangleSelected = false ∧ s.rising = false then s.cfg.outRes else s.sampleQ
        events := s.events ++
          if s.triangleSelected = false ∧ s.rising = false
          then [.sampleWrite s.cfg.outRes] else [] } := by
  cases h : s.triangleSelected <;> cases hr : s.rising <;>
    simp [execRstph, h, hr, State.writeOnTurn_eq, State.setWave, pulseLevel]

/-- What `RAUTO` leaves, field by field (R73), in terms of the range it selects. -/
theorem execRauto_eq :
    execRauto s = .next
      { s with
        highRange := s.autoRange.getD s.highRange
        events := s.events ++
          match s.autoRange with
          | some h => if s.highRange = h then [] else [.rangeNotify h]
          | none => []
        rsPrevClocked := s.ext } := by
  unfold execRauto
  cases s.autoRange with
  | none => simp
  | some h => simp [State.selectRange_eq]

/-- What `PCALC` leaves (R83, R89). -/
theorem execPcalc_eq :
    execPcalc s = .next
      (if s.changed then s.recompute s.acceptedFreq s.acceptedDuty s.ext s.inClkPeriod else s) := rfl

/-- What `COMMIT` leaves, field by field (R90). -/
theorem execCommit_eq :
    execCommit s = .next
      { s with
        increment := if s.stageValid then s.stageInc else s.increment
        stageValid := false } := by
  unfold execCommit State.publish
  cases h : s.stageValid
  · cases s; simp_all
  · simp

/-- The acceptance of R65 on the record as `SWCHK` found it. -/
def State.fires (s : State) (i : SwitchIndex) : Bool :=
  accepts s.cfg (settle (s.sw i) (s.inSwRaw i) s.inNowMs) (s.inSwRaw i) s.inNowMs

/-- The record `SWCHK i` leaves (R65). -/
def State.checked (s : State) (i : SwitchIndex) : SwitchState :=
  { stable := if s.fires i then s.inSwRaw i else (s.sw i).stable
    lastRaw := s.inSwRaw i
    lastChange := if s.inSwRaw i = (s.sw i).lastRaw then (s.sw i).lastChange else s.inNowMs }

/-- The event `SWCHK i` fires is an engage (R65). -/
def State.engages (s : State) (i : SwitchIndex) : Bool := levelOn (s.cfg.switch i) (s.inSwRaw i)

theorem State.checked_of_fires (i : SwitchIndex) (h : s.fires i = true) :
    { settle (s.sw i) (s.inSwRaw i) s.inNowMs with stable := s.inSwRaw i } = s.checked i := by
  simp [State.checked, h, settle_eq]

theorem State.checked_of_not_fires (i : SwitchIndex) (h : s.fires i = false) :
    settle (s.sw i) (s.inSwRaw i) s.inNowMs = s.checked i := by
  simp [State.checked, h, settle_eq]

/-- What `SWCHK i` does (R65): the record, and one event exactly when it fires. -/
theorem execSwchk_eq (i : SwitchIndex) :
    execSwchk i s = .next
      (if s.fires i then (s.setSw i (s.checked i)).fireEvent i (s.engages i)
       else s.setSw i (s.checked i)) := by
  unfold execSwchk State.checkSwitch
  cases hf : s.fires i
  · simp only [← s.checked_of_not_fires i hf]
    rw [State.fires] at hf
    simp [hf]
  · simp only [← s.checked_of_fires i hf]
    rw [State.fires] at hf
    simp [hf, State.engages]

/-- What `SWCHK 0` leaves, field by field (R65, R67, R72). -/
theorem execSwchk_rangeOverride_eq :
    execSwchk .rangeOverride s = .next
      { s with
        sw0 := s.checked .rangeOverride
        highRange :=
          if s.fires .rangeOverride = true ∧
            s.eventBound .rangeOverride (s.engages .rangeOverride) = true ∧ s.ext = false
          then s.engages .rangeOverride else s.highRange
        events := s.events ++
          if s.fires .rangeOverride = true ∧
            s.eventBound .rangeOverride (s.engages .rangeOverride) = true ∧ s.ext = false ∧
            s.highRange ≠ s.engages .rangeOverride
          then [.rangeNotify (s.engages .rangeOverride)] else [] } := by
  rw [execSwchk_eq]
  cases s.fires .rangeOverride
  · simp [State.setSw]
  · simp only [if_true, true_and, State.fireEvent_rangeOverride]
    rfl

/-- What `SWCHK 1` leaves, field by field (R65, R67, R101). -/
theorem execSwchk_waveformShape_eq :
    execSwchk .waveformShape s = .next
      { s with
        sw1 := s.checked .waveformShape
        triangleSelected :=
          if s.fires .waveformShape = true ∧
            s.eventBound .waveformShape (s.engages .waveformShape) = true
          then s.engages .waveformShape else s.triangleSelected } := by
  rw [execSwchk_eq]
  cases s.fires .waveformShape
  · simp [State.setSw]
  · simp only [if_true, true_and, State.fireEvent_waveformShape]
    rfl

end Sys2Proof.Machine
end

