-- ==== Sys2Proof/Laws/PerInstr.lean ====
section
/-! SUPPORT. The family of per-instruction lemmas: the shape of every operation's command word (R57,
R58). -/

namespace Sys2Proof.Laws.EncodedShape

/-- The word of an operation has an operation code of at most 6 and a zero must-be-zero field, and its
select bit is set for `SWCHK 1` and for nothing else (R57, R58, R61). -/
def Statement (i : Instr) : Prop :=
  i.word.op.toNat ≤ 6 ∧ i.word.z = 0#3 ∧ (i.word.s = true ↔ i = .swchk .waveformShape)

theorem nop : Statement .nop := by
  unfold Statement; decide

theorem tick : Statement .tick := by
  unfold Statement; decide

theorem rstph : Statement .rstph := by
  unfold Statement; decide

theorem swchk (s : SwitchIndex) : Statement (.swchk s) := by
  unfold Statement; cases s <;> decide

theorem rauto : Statement .rauto := by
  unfold Statement; decide

theorem pcalc : Statement .pcalc := by
  unfold Statement; decide

theorem commit : Statement .commit := by
  unfold Statement; decide

end Sys2Proof.Laws.EncodedShape
end

