-- ==== Sys2Proof/Laws/Step.lean ====
section
/-! SUPPORT. What one step can do, said once, and the induction over steps packaged once. -/

namespace Sys2Proof.Machine

/-- The state with the agents' own fields replaced: what the block sees is the same. -/
def State.sched (s : State) (rest : List Arrival) (q : PollPos) : State :=
  { s with arrivals := rest, pstep := q }

@[simp] theorem State.sched_self (s : State) : s.sched s.arrivals s.pstep = s := rfl

@[simp] theorem State.sched_sched (s : State) (a b : List Arrival) (p q : PollPos) :
    (s.sched a p).sched b q = s.sched b q := rfl

/-- The outcome with the agents' own fields replaced in its next state. -/
def mapSched (rest : List Arrival) (q : PollPos) :
    Host.Outcome State Fault Refusal → Host.Outcome State Fault Refusal
  | .next t => .next (t.sched rest q)
  | .fault r => .fault r
  | .refused r => .refused r

/-- Decoding the word of an operation gives the operation. -/
theorem decode_word (i : Instr) : decode i.word = .operation i := by
  cases i with
  | swchk k => cases k <;> decide
  | _ => decide

theorem step_idle {s : State} (h : s.arrivals = []) : step s = .next s := by
  simp [step, State.present, h]

theorem step_tick {s : State} {rest : List Arrival} (h : s.arrivals = .tick :: rest) :
    step s = exec .tick { s with arrivals := rest } := by
  simp [step, State.present, State.act, h, decode_word, runCommand]

theorem step_poll {s : State} {rest : List Arrival} (h : s.arrivals = .poll :: rest) :
    step s = exec s.pstep.op { s with arrivals := rest, pstep := s.pstep.succ } := by
  simp [step, State.present, State.act, h, decode_word, runCommand]

theorem step_command {s : State} {rest : List Arrival} {w : CmdWord}
    (h : s.arrivals = .command w :: rest) :
    step s = runCommand (decode w) { s with arrivals := rest } := by
  simp [step, State.present, State.act, h]

theorem step_drive {s : State} {rest : List Arrival} {p : Ports}
    (h : s.arrivals = .drive p :: rest) :
    step s = .next { s with arrivals := rest, ports := p } := by
  simp [step, State.present, State.act, h]

theorem step_reset {s : State} {rest : List Arrival} (h : s.arrivals = .reset :: rest) :
    step s = .next { State.resetOf s.cfg with ports := s.ports, arrivals := rest } := by
  simp [step, State.present, State.act, h]

/-- The word the next step fetches is the one placed. -/
theorem step_withFetchWord (s : State) (nbits w : Nat) :
    step (s.withFetchWord nbits w) = runCommand (decode (tableWord nbits w)) s := by
  rw [step_command (rest := s.arrivals) rfl]
  rfl

/-- Everything one step can do: hold the state, drive the ports, reset, drop a reserved word, or
execute one operation on the state the agents' bookkeeping leaves. -/
inductive StepCase (s t : State) : Prop where
  /-- No action to come. -/
  | idle (h : s.arrivals = []) (ht : t = s)
  /-- The environment drives the ports. -/
  | drive (rest : List Arrival) (p : Ports) (h : s.arrivals = .drive p :: rest)
      (ht : t = { s with arrivals := rest, ports := p })
  /-- Reset. -/
  | reset (rest : List Arrival) (h : s.arrivals = .reset :: rest)
      (ht : t = { State.resetOf s.cfg with ports := s.ports, arrivals := rest })
  /-- A reserved word. -/
  | reserved (rest : List Arrival) (w : CmdWord) (h : s.arrivals = .command w :: rest)
      (hw : ∀ i, decode w ≠ .operation i) (ht : t = { s with arrivals := rest })
  /-- A command word of an operation. -/
  | command (rest : List Arrival) (w : CmdWord) (i : Instr) (h : s.arrivals = .command w :: rest)
      (hw : decode w = .operation i) (ht : exec i (s.sched rest s.pstep) = .next t)
  /-- The tick context's `TICK`. -/
  | tick (rest : List Arrival) (h : s.arrivals = .tick :: rest)
      (ht : exec .tick (s.sched rest s.pstep) = .next t)
  /-- The poll context's micro-operation. -/
  | poll (rest : List Arrival) (h : s.arrivals = .poll :: rest)
      (ht : exec s.pstep.op (s.sched rest s.pstep.succ) = .next t)

theorem step_cases {s t : State} (h : step s = .next t) : StepCase s t := by
  cases ha : s.arrivals with
  | nil => rw [step_idle ha, Host.Outcome.next.injEq] at h; exact .idle ha h.symm
  | cons a rest =>
    cases a with
    | tick => exact .tick rest ha (step_tick ha ▸ h)
    | poll => exact .poll rest ha (step_poll ha ▸ h)
    | drive p => rw [step_drive ha, Host.Outcome.next.injEq] at h; exact .drive rest p ha h.symm
    | reset => rw [step_reset ha, Host.Outcome.next.injEq] at h; exact .reset rest ha h.symm
    | command w =>
      rw [step_command ha] at h
      cases hw : decode w with
      | operation i => rw [hw] at h; exact .command rest w i ha hw h
      | reserved v =>
        rw [hw, runCommand, execReserved, Host.Outcome.next.injEq] at h
        exact .reserved rest w ha (by simp [hw]) h.symm

/-- A property of the block's own elements that every operation, every change of the ports and reset
keep is kept by every step. -/
theorem step_keeps {P : State → Prop}
    (outside : ∀ s rest q p, P s → P { s.sched rest q with ports := p })
    (reset : ∀ s rest p, P s → P { State.resetOf s.cfg with ports := p, arrivals := rest })
    (operation : ∀ i s t, P s → exec i s = .next t → P t)
    {s t : State} (hs : P s) (h : step s = .next t) : P t := by
  have sched : ∀ rest q, P (s.sched rest q) := fun rest q => outside s rest q s.ports hs
  cases step_cases h with
  | idle _ ht => exact ht ▸ hs
  | drive rest p _ ht => exact ht ▸ outside s rest s.pstep p hs
  | reset rest _ ht => exact ht ▸ reset s rest s.ports hs
  | reserved rest _ _ _ ht => exact ht ▸ sched rest s.pstep
  | command rest w i _ _ ht => exact operation i _ t (sched rest s.pstep) ht
  | tick rest _ ht => exact operation .tick _ t (sched rest s.pstep) ht
  | poll rest _ ht => exact operation _ _ t (sched rest _) ht

/-! ### operations do not see the agents' fields -/

/-- No operation reads or writes the agents' own fields. -/
theorem exec_sched (i : Instr) (s : State) (rest : List Arrival) (q : PollPos) :
    exec i (s.sched rest q) = mapSched rest q (exec i s) := by
  cases i with
  | nop => rfl
  | tick => simp only [exec, execTick_eq]; rfl
  | rstph => simp only [exec, execRstph_eq]; rfl
  | swchk k =>
    cases k
    · simp only [exec, execSwchk_rangeOverride_eq]; rfl
    · simp only [exec, execSwchk_waveformShape_eq]; rfl
  | rauto => simp only [exec, execRauto_eq]; rfl
  | pcalc =>
    have hc : (s.sched rest q).changed = s.changed := rfl
    simp only [exec, execPcalc_eq, hc]
    cases s.changed <;> rfl
  | commit => simp only [exec, execCommit_eq]; rfl

/-! ### the input stream -/

theorem State.sampling_congr {s t : State} (hc : s.cfg = t.cfg) (hp : s.ports = t.ports) :
    s.sampling = t.sampling := by
  funext i
  simp [State.sampling, State.inSwRaw, State.inNowMs, hc, hp]

/-- The events of an input stream depend on the configuration, the ports and the poll agent's position
alone: executing operations between the actions changes none of them. -/
theorem State.inputEvents_congr (l : List Arrival) :
    ∀ {s t : State}, s.cfg = t.cfg → s.ports = t.ports → s.pstep = t.pstep →
      s.inputEvents l = t.inputEvents l := by
  induction l with
  | nil => intros; rfl
  | cons a l ih =>
    intro s t hc hp hq
    have same : (s.act a).1.cfg = (t.act a).1.cfg ∧ (s.act a).1.ports = (t.act a).1.ports ∧
        (s.act a).1.pstep = (t.act a).1.pstep ∧ (s.act a).2 = (t.act a).2 := by
      cases a <;> simp [State.act, State.resetOf, hc, hp, hq]
    obtain ⟨h1, h2, h3, h4⟩ := same
    cases a <;> simp only [State.inputEvents, ih h1 h2 h3, h4, State.sampling_congr h1 h2]

/-! ### runs -/

@[simp] theorem runSteps_zero (s : State) : runSteps 0 s = .next s := rfl

theorem coreRun_next (M : Host.Core) (n : Nat) (s t : M.State) (h : M.step s = .next t) :
    M.run (n + 1) s = M.run n t := by
  simp only [Host.Core.run, h]

theorem coreRun_refused (M : Host.Core) (n : Nat) (s : M.State) (r : M.Refusal)
    (h : M.step s = .refused r) : M.run (n + 1) s = .refused r := by
  simp only [Host.Core.run, h]

theorem runSteps_succ {s t : State} (h : step s = .next t) (n : Nat) :
    runSteps (n + 1) s = runSteps n t :=
  coreRun_next Sys2Proof.core n s t h

theorem runSteps_refused {s : State} {r : Refusal} (h : step s = .refused r) (n : Nat) :
    runSteps (n + 1) s = .refused r :=
  coreRun_refused Sys2Proof.core n s r h

theorem runSteps_add {m : Nat} :
    ∀ {s t : State}, runSteps m s = .next t → ∀ n, runSteps (m + n) s = runSteps n t := by
  induction m with
  | zero => intro s t h n; rw [runSteps_zero, Host.Outcome.next.injEq] at h; simp [h]
  | succ m ih =>
    intro s t h n
    cases hs : step s with
    | next u =>
      rw [runSteps_succ hs] at h
      rw [Nat.add_right_comm, runSteps_succ hs, ih h]
    | fault r => cases r
    | refused r =>
      rw [runSteps_refused hs] at h
      cases h

end Sys2Proof.Machine
end

