-- ==== Sys2Proof/Tests/Slice0.lean ====
section
/-! SUPPORT. Tests. Expected values are the spec's: words from the opcode map (R58), tables from R48,
vectors from spec/95 section 2. After them, for every statement with hypotheses, a state and operands
that meet them together. -/

namespace Sys2Proof.Tests

open Sys2Proof Sys2Proof.Machine

/-! ### helpers -/

/-- The next state, if there is one. -/
def next? : Host.Outcome State Fault Refusal → Option State
  | .next t => some t
  | .fault _ => none
  | .refused _ => none

/-- TOY after reset. -/
def toy : State := State.resetOf Config.toy

/-- REF after reset. -/
def ref : State := State.resetOf Config.ref

/-- TOY with the waveform's registers set: the columns of spec/95, 2.8. -/
def wave (p : Int) (r : Bool) (a b : Nat) (tri : Bool) (q : Nat) : State :=
  { toy with phase := p, rising := r, increment := ⟨a, b⟩, triangleSelected := tri, sampleQ := q }

/-- Ports with the switches and the time given and everything else 0. -/
def swPorts (raw : BitVec 2) (now : Nat) : Ports := { Ports.idle with swRaw := raw, nowMs := now }

/-- Ports with the clock given and everything else 0. -/
def clkPorts (active : Bool) (period : Nat) : Ports :=
  { Ports.idle with clkActive := active, clkPeriod := period }

/-- Ports with the knobs given and everything else 0. -/
def knobPorts (freq duty : Nat) : Ports := { Ports.idle with knobFreq := freq, knobDuty := duty }

/-- What spec/95, 2.8 shows after a `TICK` or an `RSTPH`. -/
def shown (o : Host.Outcome State Fault Refusal) : Option (Int × Bool × Nat × List Event) :=
  (next? o).map fun t => (t.phase, t.rising, t.sampleQ, t.events)

/-! ### configuration and well-formedness -/

theorem test_ref_is_legal : Config.ref.legal = true := by decide +kernel

theorem test_toy_is_legal : Config.toy.legal = true := by decide

/-- The checksums of R48. -/
theorem test_ref_tables :
    Config.ref.ptabLow.sum = 4408511665 ∧ Config.ref.ptabHigh.sum = 4620834 ∧
    Config.ref.ptabLow.length = 1024 ∧ Config.ref.ptabHigh.length = 1024 := by decide +kernel

/-- R6, the derived parameters of REF. -/
theorem test_ref_derived :
    Config.ref.adcMax = 1023 ∧ Config.ref.outBits = 12 ∧ Config.ref.scaled = 268369920 ∧
    Config.ref.crossover = 90000 ∧ Config.ref.tableSize = 17 ∧ Config.ref.dutyMin = 102 ∧
    Config.ref.dutyMax = 920 ∧ Config.ref.resetDuty = 511 := by decide

theorem test_item1_refuses : { Config.toy with outRes := 0 }.item1 = false := by decide

theorem test_item2_refuses : { Config.toy with phaseBits := 9 }.item2 = false := by decide

theorem test_item3_refuses : { Config.toy with adcBits := 3 }.item3 = false := by decide

theorem test_item4_refuses : { Config.toy with nRatio := 9 }.item4 = false := by decide

theorem test_item5_refuses : { Config.toy with tickInterval := 0 }.item5 = false := by decide

theorem test_item6_refuses : { Config.toy with highFastest := 201 }.item6 = false := by decide

theorem test_item7_refuses : { Config.toy with knobHyst := 2 }.item7 = false := by decide

theorem test_item8_refuses : { Config.toy with ptabHigh := [200, 20] }.item8 = false := by decide

theorem test_item9_refuses : { Config.toy with msBits := 6 }.item9 = false := by decide

theorem test_item10_refuses : { Config.toy with workBits := 14 }.item10 = false := by decide

theorem test_item11_refuses : { Config.toy with nRatio := 5 }.item11 = false := by decide

theorem test_defined_word_is_not_reserved : (Command.reserved 0x10#8).wellFormed = false := by decide

theorem test_illegal_configuration_is_refused :
    State.boot { Config.toy with tickInterval := 0 } = .refused .illegalConfiguration := rfl

/-- R16: the reset pair of REF and of TOY. -/
theorem test_reset_increments :
    State.reset.increment = ⟨268, 268⟩ ∧ toy.increment = ⟨1, 1⟩ := by decide +kernel

/-- The word placed is the next one presented, in the table's numbering. -/
theorem test_fetch_word :
    decodeTableWord 8 0x31 = some (.swchk .waveformShape) ∧ decodeTableWord 8 0x32 = none ∧
    (toy.withFetchWord 8 0x31).present = (toy, some 0x31#8) := by decide

/-! ### decoding: each word written out from the column `cmd` of R58 -/

theorem test_decode_nop : decode 0b00000000#8 = .operation .nop := by decide

theorem test_decode_tick : decode 0b00010000#8 = .operation .tick := by decide

theorem test_decode_rstph : decode 0b00100000#8 = .operation .rstph := by decide

theorem test_decode_swchk0 : decode 0b00110000#8 = .operation (.swchk .rangeOverride) := by decide

theorem test_decode_swchk1 : decode 0b00110001#8 = .operation (.swchk .waveformShape) := by decide

theorem test_decode_rauto : decode 0b01000000#8 = .operation .rauto := by decide

theorem test_decode_pcalc : decode 0b01010000#8 = .operation .pcalc := by decide

theorem test_decode_commit : decode 0b01100000#8 = .operation .commit := by decide

/-- The reserved words spec/95, 2.10 lists. -/
theorem test_decode_reserved :
    [0x01#8, 0x11#8, 0x32#8, 0x38#8, 0x61#8, 0x70#8, 0xFF#8].all
      (fun w => decide (decode w = .reserved w)) = true := by decide

/-! ### one step per test -/

theorem test_nop : next? (exec .nop toy) = some toy := by decide

/-- spec/95, 2.8: the double reflection in pulse mode writes nothing. -/
theorem test_tick_double_reflection :
    shown (exec .tick (wave 240 true 240 240 false 15)) = some (0, true, 15, []) := by decide

/-- spec/95, 2.8: the top reflection, triangle. -/
theorem test_tick_top_reflection :
    shown (exec .tick (wave 200 true 60 40 true 0)) = some (220, false, 13, [.sampleWrite 13]) := by
  decide

/-- spec/95, 2.9. -/
theorem test_rstph_pulse :
    shown (exec .rstph (wave 137 false 60 40 false 0)) = some (0, true, 15, [.sampleWrite 15]) := by
  decide

/-- spec/95, 2.9. -/
theorem test_rstph_triangle :
    shown (exec .rstph (wave 137 false 60 40 true 8)) = some (0, true, 8, []) := by decide

/-- spec/95, 2.1: the last row of the clock's wrap: elapsed 50, accepted. -/
theorem test_swchk_wrap :
    (next? (exec (.swchk .waveformShape)
      { ref with sw1 := ⟨false, true, 4294967290⟩, ports := swPorts 2#2 44 })).map
        (fun t => (t.sw1, t.triangleSelected)) = some (⟨true, true, 4294967290⟩, true) := by
  decide +kernel

/-- spec/95, 2.1: inverted polarity, the row at 60 ms: raw 0 is "on". -/
theorem test_swchk_inverted :
    (next? (exec (.swchk .rangeOverride)
      { State.resetOf { Config.toy with sw0 := { SwitchConfig.plain with invert := true } } with
        sw0 := ⟨true, false, 10⟩, ports := swPorts 0#2 60 })).map
        (fun t => (t.sw0, t.highRange, t.events)) =
      some (⟨false, false, 10⟩, true, [.rangeNotify true]) := by decide

/-- spec/95, 2.2: slower than the crossover, on high. -/
theorem test_rauto_slow :
    (next? (exec .rauto { ref with highRange := true, ports := clkPorts true 90001 })).map
      (fun t => (t.highRange, t.rsPrevClocked, t.events)) =
        some (false, true, [.rangeNotify false]) := by decide +kernel

/-- spec/95, 2.2: clock lost because its period is too short: the range of the switch. -/
theorem test_rauto_resync :
    (next? (exec .rauto { ref with
      rsPrevClocked := true, sw0 := ⟨true, true, 0⟩, ports := clkPorts true 1000 })).map
      (fun t => (t.highRange, t.rsPrevClocked, t.events)) =
        some (true, false, [.rangeNotify true]) := by decide +kernel

/-- spec/95, 2.7, row 1. -/
theorem test_pcalc_forced :
    (next? (exec .pcalc { ref with ports := knobPorts 500 511 })).map
      (fun t => (t.period, t.dutyCycle, t.stageInc, t.stageValid, t.pcForce)) =
        some (2106264, 511, ⟨2550, 2545⟩, true, false) := by decide +kernel

/-- spec/95, 2.7, row 7: both knobs snap to the top, the duty is clamped. -/
theorem test_pcalc_extremes :
    (next? (exec .pcalc { ref with
      pcForce := false, lastFreq := 0, lastDuty := 60, ports := knobPorts 1019 1020 })).map
      (fun t => (t.period, t.dutyCycle, t.stageInc, t.lastFreq, t.lastDuty)) =
        some (200000, 920, ⟨14921, 133318⟩, 1023, 1023) := by decide +kernel

/-- spec/95, 2.7: the `COMMIT` after row 1. -/
theorem test_commit :
    (next? (exec .commit { toy with stageInc := ⟨2550, 2545⟩, stageValid := true })).map
      (fun t => (t.increment, t.stageValid)) = some (⟨2550, 2545⟩, false) := by decide

/-! ### the arithmetic, spec/95, 2.3 to 2.6 -/

/-- Both sides of the branch boundary. -/
theorem test_safeMuldiv :
    safeMuldiv Config.ref 8405024 511 1023 = 4198403 ∧
    safeMuldiv Config.ref 8405025 511 1023 = 4198376 ∧
    safeMuldiv Config.toy 5041 13 15 = 4368 ∧ safeMuldiv Config.toy 20000 13 15 = 17329 := by
  decide +kernel

theorem test_knob_conditioning :
    snap Config.toy 1 = 0 ∧ snap Config.toy 2 = 2 ∧ snap Config.toy 13 = 13 ∧
    snap Config.toy 14 = 15 ∧ acceptKnob Config.toy false 8 7 = 7 ∧
    acceptKnob Config.toy false 9 7 = 9 := by decide

theorem test_clockedPeriod :
    clockedPeriod Config.toy 5 100 = 200 ∧ clockedPeriod Config.toy 8 100 = 100 ∧
    clockedPeriod Config.toy 9 100 = 50 ∧ clockedPeriod Config.toy 15 100 = 33 ∧
    clockedPeriod Config.toy 0 9000 = 20000 ∧ clockedPeriod Config.toy 15 30 = 20 := by decide

theorem test_incPair :
    incPair Config.ref 20000000 102 = ⟨1345, 149⟩ ∧ incPair Config.ref 250 920 = ⟨12198632, 134184960⟩ ∧
    incPair Config.toy 20 1 = ⟨240, 12⟩ ∧ incPair Config.toy 20000 7 = ⟨1, 1⟩ := by decide +kernel

/-! ### witnesses: states that meet the hypotheses of the statements -/

theorem toy_reset_invariant : Invariant toy where
  cfg_legal := test_toy_is_legal
  phase_nonneg := by decide
  phase_le := by decide
  increment_ok := by unfold Increments.InRange; decide
  stageInc_ok := by unfold Increments.InRange; decide
  sampleQ_le := by decide
  period_ge := by decide
  period_le := by decide
  duty_ge := by decide
  duty_le := by decide
  lastFreq_le := by decide
  lastDuty_le := by decide
  lastClkper_lt := by decide
  sw0_lt := by decide
  sw1_lt := by decide

/-- TOY with any phase, direction, shape, latch and increments in their bounds, and any actions to
come, meets the invariant. -/
theorem wave_invariant (n : Nat) (r : Bool) (a b : Nat) (tri : Bool) (q : Nat) (l : List Arrival)
    (hn : n ≤ 240) (ha : 1 ≤ a ∧ a ≤ 240) (hb : 1 ≤ b ∧ b ≤ 240) (hq : q ≤ 15) :
    Invariant { wave n r a b tri q with arrivals := l } :=
  { toy_reset_invariant with
    phase_nonneg := Int.natCast_nonneg n
    phase_le := Int.ofNat_le.2 hn
    increment_ok := ⟨ha.1, ha.2, hb.1, hb.2⟩
    sampleQ_le := hq }

theorem toy_invariant : Invariant { toy with arrivals := [.tick] } :=
  wave_invariant 0 true 1 1 false 15 [.tick] (by decide) (by decide) (by decide) (by decide)

theorem toy_pairsComputed : PairsComputed { toy with arrivals := [.tick] } where
  increment := ⟨20000, 7, by decide, by decide, by decide, by decide, rfl⟩
  stageInc := ⟨20000, 7, by decide, by decide, by decide, by decide, rfl⟩

theorem toy_observedAgree (h : Bool) (p : Ports) :
    ObservedAgree { toy with highRange := h, ports := p, arrivals := [.tick] } where
  snapped := show snap Config.toy 0 = 0 by decide
  period h := by cases h
  duty h := by cases h
  staged h := by cases h

/-- A pair of opposite range notifications, and the state that agrees with them. -/
theorem toy_eventsAgree :
    EventsAgree { toy with
      highRange := false, sampleQ := 7
      events := [.rangeNotify true, .sampleWrite 7, .rangeNotify false], arrivals := [.tick] } where
  alternate := by decide
  last_range := by decide
  bounded := by decide
  last_sample := by decide

/-! #### the command port -/

theorem witness_OpcodeRowsSelectTheirWords :
    (Instr.swchk .rangeOverride).row.selects 0x31#8 = true ∧
    (Instr.swchk .waveformShape).row.selects 0x31#8 = true := by decide

theorem witness_DecodeAndEncodeAgree :
    (Command.reserved 0x0F#8).wellFormed = true ∧ (Command.reserved 0x70#8).wellFormed = true ∧
    (Command.reserved 0xFF#8).wellFormed = true ∧
    (Command.operation (.swchk .waveformShape)).wellFormed = true := by decide

theorem witness_ReservedWordsBehaveLikeNop :
    decode 0x70#8 = .reserved 0x70#8 ∧
    { toy with arrivals := [.command 0x70#8] }.arrivals = .command 0x70#8 :: [] := by decide

/-! #### the step and the agents -/

theorem witness_StepRunsTheDecodedCommand :
    (toy.withFetchWord 8 0x31).arrivals = .command 0x31#8 :: [] ∧
    decode 0x31#8 = .operation (.swchk .waveformShape) := by decide

theorem witness_TickContextIssuesTick :
    { toy with arrivals := [.tick] }.arrivals = .tick :: [] := by decide

/-- One state per position of the poll agent. -/
theorem witness_PollContextIssuesTheNextMicroOperation :
    ∀ q ∈ [PollPos.swchk0, .swchk1, .rauto, .pcalc, .commit],
      { toy with pstep := q, arrivals := [.poll] }.arrivals = .poll :: [] ∧
      { toy with pstep := q, arrivals := [.poll] }.pstep = q := by decide

theorem witness_PollIsItsFiveOperations :
    { toy with arrivals := [.poll, .poll, .poll, .poll, .poll, .tick] }.pstep = .swchk0 ∧
    { toy with arrivals := [.poll, .poll, .poll, .poll, .poll, .tick] }.arrivals =
      .poll :: .poll :: .poll :: .poll :: .poll :: [.tick] := by decide

theorem witness_EnvironmentDrivesOnlyThePorts :
    { toy with arrivals := [.drive (clkPorts true 100)] }.arrivals = .drive (clkPorts true 100) :: [] ∧
    toy.arrivals = [] := by decide

theorem witness_ResetActionRestoresTheResetState :
    { wave 137 false 60 40 true 8 with arrivals := [.reset, .tick] }.arrivals = .reset :: [.tick] := by
  decide

theorem witness_ConfigurationIsConstant :
    (∃ t, exec .tick toy = .next t) ∧ ∃ t, step { toy with arrivals := [.reset] } = .next t :=
  ⟨⟨_, rfl⟩, ⟨_, rfl⟩⟩

/-- Every row of the write matrix has a next state. -/
theorem witness_WriteMatrix :
    (∃ t, exec .nop toy = .next t) ∧ (∃ t, exec .tick toy = .next t) ∧
    (∃ t, exec .rstph toy = .next t) ∧ (∃ t, exec (.swchk .rangeOverride) toy = .next t) ∧
    (∃ t, exec (.swchk .waveformShape) toy = .next t) ∧ (∃ t, exec .rauto toy = .next t) ∧
    (∃ t, exec .pcalc toy = .next t) ∧ ∃ t, exec .commit toy = .next t :=
  ⟨⟨_, rfl⟩, ⟨_, rfl⟩, ⟨_, rfl⟩, ⟨_, rfl⟩, ⟨_, rfl⟩, ⟨_, rfl⟩, ⟨_, rfl⟩, ⟨_, rfl⟩⟩

/-! #### reset -/

theorem witness_OnlyIllegalConfigurationsAreRefused :
    Config.toy.legal = true ∧ { Config.toy with tickInterval := 0 }.legal = false := by decide

theorem witness_InvariantsHoldAtReset : Config.toy.legal = true := test_toy_is_legal

/-! #### invariants -/

theorem witness_StepKeepsInvariant :
    ∃ t, Invariant { toy with arrivals := [.tick] } ∧
      step { toy with arrivals := [.tick] } = .next t := ⟨_, toy_invariant, rfl⟩

theorem witness_StepKeepsTurned :
    ∃ t, Invariant { toy with arrivals := [.tick] } ∧ Turned { toy with arrivals := [.tick] } ∧
      step { toy with arrivals := [.tick] } = .next t :=
  ⟨_, toy_invariant, ⟨fun _ => by decide, fun h => by cases h⟩, rfl⟩

theorem witness_StepKeepsPairsWhole :
    ∃ t, Invariant { toy with arrivals := [.tick] } ∧ PairsComputed { toy with arrivals := [.tick] } ∧
      step { toy with arrivals := [.tick] } = .next t :=
  ⟨_, toy_invariant, toy_pairsComputed, rfl⟩

theorem witness_StepKeepsEventsInAgreement : ∃ s t, EventsAgree s ∧ step s = .next t :=
  ⟨_, _, toy_eventsAgree, rfl⟩

theorem witness_StepKeepsObservedInAgreement :
    ∃ s t, s.cfg.legal = true ∧ ObservedAgree s ∧ step s = .next t :=
  ⟨_, _, test_toy_is_legal, toy_observedAgree true Ports.idle, rfl⟩

/-- A state in which a recomputation has been made, so that no clause of the agreement is empty. -/
theorem witness_ObservedAgree_after_recomputation :
    ObservedAgree { toy with
      pcForce := false, lastFreq := 15, lastDuty := 7, lastRange := true, highRange := true
      period := 20, dutyCycle := 7, stageInc := ⟨26, 21⟩ } where
  snapped := by decide
  period _ := by decide
  duty _ := by decide
  staged _ := by decide

theorem witness_EveryReachableStateMeetsTheInvariants : Config.toy.legal = true := test_toy_is_legal

theorem witness_InvariantStatesFitTheirRegisters : Invariant { toy with arrivals := [.tick] } :=
  toy_invariant

/-- `RSTPH` and `NOP` between two `POLL` sequences, ticks anywhere, and a staged pair before its
`COMMIT`. -/
theorem witness_DisciplinedPollsCommitWhatTheyStage :
    ∃ s t, pollDiscipline s.pstep s.arrivals = true ∧ s.stageValid = true ∧ s.pstep = .commit ∧
      step s = .next t :=
  ⟨{ toy with
      stageValid := true, pstep := .commit
      arrivals := [.tick, .poll, .command 0x20#8, .command 0x00#8, .poll, .tick, .reset, .poll] },
    _, by decide, rfl, rfl, rfl⟩

/-! #### the waveform engine -/

theorem witness_TickNeverWrapsThePhaseRegister :
    Invariant { wave 240 true 240 1 false 15 with arrivals := [] } :=
  wave_invariant 240 true 240 1 false 15 [] (by decide) (by decide) (by decide) (by decide)

/-- Each clause of `TickAdvancesAndReflects`: triangle; pulse with a turn; pulse without one. -/
theorem witness_TickAdvancesAndReflects :
    (wave 180 true 60 40 true 0).triangleSelected = true ∧
    ((wave 180 true 60 40 false 15).triangleSelected = false ∧
      (wave 180 true 60 40 false 15).advance.rising ≠ (wave 180 true 60 40 false 15).rising) ∧
    ((wave 179 true 60 40 false 15).triangleSelected = false ∧
      (wave 179 true 60 40 false 15).advance.rising = (wave 179 true 60 40 false 15).rising) := by
  decide

theorem witness_BothReflectionsOnlyAtFullStep :
    Invariant { wave 240 true 240 240 false 15 with arrivals := [] } ∧
    (wave 240 true 240 240 false 15).rising = true ∧
    (wave 240 true 240 240 false 15).phase = (Config.toy.scaled : Int) ∧
    (wave 240 true 240 240 false 15).increment.rise = Config.toy.scaled ∧
    (wave 240 true 240 240 false 15).triangleSelected = false :=
  ⟨wave_invariant 240 true 240 240 false 15 [] (by decide) (by decide) (by decide) (by decide),
    rfl, rfl, rfl, rfl⟩

theorem witness_TriangleSampleIsTheDescaledPhase :
    0 ≤ Config.toy.scaled ∧ 240 ≤ Config.toy.scaled := by decide

/-- A `TICK` that turns, one that does not, and an `RSTPH` that turns, all in pulse mode. -/
theorem witness_PulseIsWrittenExactlyOnATurn :
    (∃ t, (wave 200 true 60 40 false 15).triangleSelected = false ∧
      exec .tick (wave 200 true 60 40 false 15) = .next t ∧
      t.rising ≠ (wave 200 true 60 40 false 15).rising) ∧
    (∃ t, PulseFollows (wave 60 true 60 40 false 15) ∧
      exec .tick (wave 60 true 60 40 false 15) = .next t) ∧
    ∃ t, exec .rstph (wave 137 false 60 40 false 0) = .next t ∧
      t.rising ≠ (wave 137 false 60 40 false 0).rising :=
  ⟨⟨_, rfl, rfl, by decide⟩, ⟨_, by unfold PulseFollows; decide, rfl⟩, ⟨_, rfl, by decide⟩⟩

/-- Each clause of `RstphRestartsTheRisingHalf`. -/
theorem witness_RstphRestartsTheRisingHalf :
    ((wave 137 false 60 40 false 0).triangleSelected = false ∧
      (wave 137 false 60 40 false 0).rising = false) ∧
    (wave 137 false 60 40 true 8).triangleSelected = true ∧
    (wave 137 true 60 40 false 15).rising = true := by decide

theorem witness_RstphIsIdempotent : ∃ t, exec .rstph (wave 137 false 60 40 false 0) = .next t :=
  ⟨_, rfl⟩

/-- spec/95, P6: increments (70, 60): 4 ticks up and 4 down. -/
theorem witness_CycleTickCounts :
    let s := { wave ((0 : Nat) : Int) true 70 60 false 15 with
      arrivals := List.replicate 8 .tick ++ [.poll] }
    Invariant s ∧ s.phase = 0 ∧ s.rising = true ∧
    (s.cfg.scaled + s.increment.rise - 1) / s.increment.rise = 4 ∧
    (s.cfg.scaled - (4 * s.increment.rise - s.cfg.scaled) + s.increment.fall - 1) /
      s.increment.fall = 4 ∧
    s.arrivals = List.replicate (4 + 4) .tick ++ [.poll] :=
  ⟨wave_invariant 0 true 70 60 false 15 _ (by decide) (by decide) (by decide) (by decide),
    by decide, by decide, by decide, by decide, by decide⟩

/-- spec/95, section 1, item 3: increments (60, 40) both divide `S`: 4 ticks up and 6 down. -/
theorem witness_CycleClosesExactlyWhenTheFallDivides :
    let s := { wave ((0 : Nat) : Int) true 60 40 false 15 with
      arrivals := List.replicate 10 .tick ++ [] }
    Invariant s ∧ s.phase = 0 ∧ s.rising = true ∧
    (s.cfg.scaled + s.increment.rise - 1) / s.increment.rise = 4 ∧
    (s.cfg.scaled - (4 * s.increment.rise - s.cfg.scaled) + s.increment.fall - 1) /
      s.increment.fall = 6 ∧
    s.arrivals = List.replicate (4 + 6) .tick ++ [] ∧
    s.increment.rise ∣ s.cfg.scaled ∧ s.increment.fall ∣ s.cfg.scaled :=
  ⟨wave_invariant 0 true 60 40 false 15 _ (by decide) (by decide) (by decide) (by decide),
    by decide, by decide, by decide, by decide, by decide, by decide, by decide⟩

theorem witness_DirectionTurnsWithinSTicks :
    let s := { wave ((0 : Nat) : Int) true 1 1 false 15 with
      arrivals := List.replicate Config.toy.scaled .tick ++ [] }
    Invariant s ∧ Turned s ∧ s.arrivals = List.replicate s.cfg.scaled .tick ++ [] :=
  ⟨wave_invariant 0 true 1 1 false 15 _ (by decide) (by decide) (by decide) (by decide),
    ⟨fun _ => by decide, fun h => by cases h⟩, rfl⟩

/-- Two states that agree for `TICK` and differ elsewhere, in pulse mode at a turn and away from
one. -/
theorem witness_TickSeesOnlyWhatIsShared :
    ∃ t', (wave 200 true 60 40 false 15) ≠ { wave 200 true 60 40 false 15 with highRange := true } ∧
      AgreeForTick (wave 200 true 60 40 false 15)
        { wave 200 true 60 40 false 15 with highRange := true } ∧
      exec .tick (wave 200 true 60 40 false 15) = .next t' ∧
      ∃ u', exec .tick { wave 200 true 60 40 false 15 with highRange := true } = .next u' :=
  ⟨_, by decide, ⟨rfl, rfl, rfl, rfl, rfl⟩, rfl, _, rfl⟩

/-! #### the debounced switches -/

/-- The acceptance at elapsed exactly `DEBOUNCE_MS`, the refusal one millisecond earlier, for both
switches. -/
theorem witness_SwchkDebouncesAndDispatches :
    { toy with sw0 := ⟨false, true, 100⟩, ports := swPorts 1#2 150 }.fires .rangeOverride = true ∧
    { toy with sw0 := ⟨false, true, 100⟩, ports := swPorts 1#2 149 }.fires .rangeOverride = false ∧
    { toy with sw1 := ⟨false, true, 100⟩, ports := swPorts 2#2 150 }.fires .waveformShape = true ∧
    { toy with sw1 := ⟨false, true, 100⟩, ports := swPorts 2#2 149 }.fires .waveformShape = false := by
  decide

theorem witness_FreshChangeFiresNothing :
    Config.toy.legal = true ∧
    { toy with ports := swPorts 1#2 5 }.inSwRaw .rangeOverride ≠ (toy.sw .rangeOverride).lastRaw ∧
    { toy with ports := swPorts 2#2 5 }.inSwRaw .waveformShape ≠ (toy.sw .waveformShape).lastRaw := by
  decide

theorem witness_ElapsedTimeIsTrueAcrossAWrap :
    4294967290 ≤ 4294967340 ∧ 4294967340 - 4294967290 < 2 ^ Config.toy.msBits ∧
    0 ≤ 4294967295 ∧ 4294967295 - 0 < 2 ^ Config.toy.msBits := by decide

/-- A stream for the clock's premise: `SWCHK 1` sees the level 1 at 4294967290, `SWCHK 0` comes
between with the clock wrapped to 10, then `SWCHK 1` at 43 (elapsed 49), a tick, and at 44 (elapsed
50). The numbers are those of the wrap in spec/95, 2.1. -/
def wrapStream : List Arrival :=
  [.drive (swPorts 2#2 4294967290), .command 0x31#8, .drive (swPorts 2#2 10), .command 0x30#8,
   .drive (swPorts 2#2 43), .command 0x31#8, .tick, .drive (swPorts 2#2 44), .command 0x31#8]

/-- The stream's true times. -/
def wrapTimes : List Nat := [4294967290, 4294967306, 4294967339, 4294967340]

/-- The whole stream, in which the acceptance is due, and the stream without its last poll, in which
it is not. -/
theorem witness_AcceptanceDelay :
    let s := { toy with arrivals := wrapStream ++ [Arrival.poll] }
    s.cfg.legal = true ∧ (s.sw .waveformShape).stable ≠ true ∧ (s.sw .waveformShape).lastRaw ≠ true ∧
    s.arrivals = wrapStream ++ [Arrival.poll] ∧
    s.arrivals = wrapStream.take 8 ++ (wrapStream.drop 8 ++ [Arrival.poll]) ∧ Arrival.reset ∉ wrapStream ∧
    s.clockPremise wrapStream wrapTimes = true ∧
    s.clockPremise (wrapStream.take 8) (wrapTimes.take 3) = true ∧
    s.inputEvents wrapStream =
      [.sampled ⟨.waveformShape, true, 4294967290⟩, .sampled ⟨.rangeOverride, false, 10⟩,
       .sampled ⟨.waveformShape, true, 43⟩, .sampled ⟨.waveformShape, true, 44⟩] ∧
    checkTimes .waveformShape (s.inputEvents wrapStream) wrapTimes =
      4294967290 :: [4294967339, 4294967340] ∧
    (∃ now ∈ [4294967339, 4294967340], 4294967290 + s.cfg.debounceMs ≤ now) ∧
    checkTimes .waveformShape (s.inputEvents (wrapStream.take 8)) (wrapTimes.take 3) =
      4294967290 :: [4294967339] ∧
    ¬∃ now ∈ [4294967339], 4294967290 + s.cfg.debounceMs ≤ now := by decide +kernel

/-- R40: a clock that steps back from `SWCHK 0` to `SWCHK 1` is refused, at its face value and also
read as a wrap, by the next `SWCHK 0`; and a stream of whole polls with a steady clock is admitted. -/
theorem test_clock_premise :
    let back : List Arrival :=
      [.drive (swPorts 0#2 100), .command 0x30#8, .drive (swPorts 0#2 99), .command 0x31#8,
       .drive (swPorts 0#2 101), .command 0x30#8]
    let steady : List Arrival :=
      [.drive (swPorts 0#2 100), .poll, .poll, .tick, .poll, .poll, .poll, .drive (swPorts 0#2 101),
       .poll]
    toy.clockPremise back [100, 99, 101] = false ∧
    toy.clockPremise back [100, 2 ^ 32 + 99, 2 ^ 32 + 101] = false ∧
    toy.clockPremise steady [100, 100, 101] = true := by decide +kernel

/-! #### the range selector -/

/-- Just above `MIN_CLOCK_PERIOD`. -/
theorem witness_RangeLockout :
    { toy with ports := clkPorts true 11 }.inClkActive = true ∧
    Config.toy.minClockPeriod < { toy with ports := clkPorts true 11 }.inClkPeriod := by decide

/-- Each clause of `RautoSelectsTheRange`: slow on high; fast on low; at the crossover; the clock
gone; never clocked. -/
theorem witness_RautoSelectsTheRange :
    { toy with highRange := true, ports := clkPorts true 901 }.autoRange = some false ∧
    { toy with ports := clkPorts true 899 }.autoRange = some true ∧
    { toy with highRange := true, ports := clkPorts true 900 }.autoRange = none ∧
    { toy with ports := clkPorts true 900 }.autoRange = none ∧
    { toy with rsPrevClocked := true, ports := clkPorts true 10 }.autoRange = some false ∧
    toy.autoRange = none := by decide

/-- An operation that changes the range and one that does not. -/
theorem witness_OneNotificationPerRangeChange :
    (∃ t, exec .rauto { toy with ports := clkPorts true 899 } = .next t ∧ t.highRange = true) ∧
    ∃ t, exec .rauto toy = .next t ∧ t.highRange = false :=
  ⟨⟨_, rfl, by decide⟩, ⟨_, rfl, by decide⟩⟩

/-! #### the period calculator -/

/-- The guard, the divide-first branch and the exact branch, the last two at the boundary. -/
theorem witness_SafeMuldivBranches :
    1 ≤ 15 ∧ 5042 * 13 > Config.toy.maxW ∧ 5041 * 13 ≤ Config.toy.maxW := by decide

theorem witness_SafeMuldivError :
    1 ≤ 15 ∧ 5042 / 15 * 13 ≤ Config.toy.maxW ∧ 5041 / 15 * 13 ≤ Config.toy.maxW ∧
    5041 * 13 ≤ Config.toy.maxW ∧ Config.toy.maxW < 5042 * 13 := by decide

/-- The four corners of the legal periods and duties. -/
theorem witness_IncrementsStayWithinOneAndS :
    Config.toy.legal = true ∧ Config.toy.highFastest ≤ 20 ∧ 20000 ≤ Config.toy.lowSlowest ∧
    Config.toy.dutyMin ≤ 1 ∧ 13 ≤ Config.toy.dutyMax := by decide

/-- Both ends of each of the three ranges. -/
theorem witness_SnapIsTheDeadZone :
    Config.toy.legal = true ∧ 15 ≤ Config.toy.adcMax ∧
    (0 ≤ Config.toy.edgeDeadzone ∧ 1 ≤ Config.toy.edgeDeadzone) ∧
    (Config.toy.adcMax - Config.toy.edgeDeadzone ≤ 14 ∧ 14 ≤ Config.toy.adcMax) ∧
    (Config.toy.edgeDeadzone < 2 ∧ 13 < Config.toy.adcMax - Config.toy.edgeDeadzone) := by decide

theorem witness_ExtremesAreAlwaysAccepted :
    Config.toy.legal = true ∧ 0 ≤ Config.toy.adcMax ∧ 15 ≤ Config.toy.adcMax := by decide

theorem witness_PeriodRomFallsFromSlowestToFastest :
    Config.toy.legal = true ∧ 0 ≤ 15 ∧ 15 ≤ Config.toy.adcMax := by decide

/-- Both halves of the table, each end of each. -/
theorem witness_CoefficientTableIsSymmetric :
    1 ≤ Config.toy.nRatio ∧ 0 ≤ 2 ∧ 2 ≤ Config.toy.nRatio - 1 ∧ Config.toy.nRatio - 1 ≤ 2 ∧
    2 ≤ 4 := by decide

/-- The last reading of the lower half and the first of the upper half. -/
theorem witness_TheTwoReadingsOfLowerHalfAgree :
    Config.toy.legal = true ∧ 15 ≤ Config.toy.adcMax ∧ 7 < (Config.toy.adcMax + 1) / 2 ∧
    (Config.toy.adcMax + 1) / 2 ≤ 8 := by decide

theorem witness_ClockedPeriodFallsAlongTheKnob :
    Config.toy.legal = true ∧ 7 ≤ 8 ∧ 8 ≤ 15 ∧ 15 ≤ Config.toy.adcMax := by decide

/-- A `PCALC` that recomputes and one that does not. -/
theorem witness_PcalcRecomputesExactlyOnAChange :
    toy.changed = true ∧
    { toy with pcForce := false, ports := knobPorts 1 8 }.changed = false := by decide

theorem witness_ChangeDetectionLosesNothing :
    ObservedAgree { toy with
      highRange := true, ports := knobPorts 2 13, arrivals := [.tick] } :=
  toy_observedAgree true (knobPorts 2 13)

/-- The two boundary readings of the dead-zones, one in each range. -/
theorem witness_KnobEndsReachThePeriodEnds :
    let s := { toy with highRange := false, ports := knobPorts 1 7, arrivals := [.tick] }
    let u := { toy with highRange := true, ports := knobPorts 14 7, arrivals := [.tick] }
    (s.cfg.legal = true ∧ ObservedAgree s ∧ s.ext = false ∧ s.inKnobFreq ≤ s.cfg.edgeDeadzone) ∧
    u.cfg.legal = true ∧ ObservedAgree u ∧ u.ext = false ∧
    u.cfg.adcMax - u.cfg.edgeDeadzone ≤ u.inKnobFreq :=
  ⟨⟨test_toy_is_legal, toy_observedAgree false _, rfl, by decide⟩,
    test_toy_is_legal, toy_observedAgree true _, rfl, by decide⟩

theorem witness_CommitPublishesThePairAsAWhole :
    { toy with stageValid := true }.stageValid = true ∧ toy.stageValid = false := by decide

theorem witness_TickAndPcalcCommute :
    ∃ t u, exec .tick toy = .next t ∧ exec .pcalc toy = .next u := ⟨_, _, rfl, rfl⟩

/-- Each of the poll operations. -/
theorem witness_TickIsTransparentToThePollContext :
    (∃ t, exec .tick (wave 200 true 60 40 true 0) = .next t ∧
      (∃ v, exec (.swchk .waveformShape) t = .next v) ∧ (∃ v, exec .rauto t = .next v) ∧
      (∃ v, exec .pcalc t = .next v) ∧ ∃ v, exec .commit t = .next v) ∧
    (∃ u, exec (.swchk .waveformShape) (wave 200 true 60 40 true 0) = .next u) ∧
    (∃ u, exec .rauto (wave 200 true 60 40 true 0) = .next u) ∧
    (∃ u, exec .pcalc (wave 200 true 60 40 true 0) = .next u) ∧
    ∃ u, exec .commit (wave 200 true 60 40 true 0) = .next u :=
  ⟨⟨_, rfl, ⟨_, rfl⟩, ⟨_, rfl⟩, ⟨_, rfl⟩, ⟨_, rfl⟩⟩, ⟨_, rfl⟩, ⟨_, rfl⟩, ⟨_, rfl⟩, ⟨_, rfl⟩⟩

end Sys2Proof.Tests
end

/-! PROOFS. Scope (spec/00_scope.md): the parameters are constants (R8), what the tick context and the
environment do to the block (R5, R115), and the check of a configuration (R7, R104). -/

namespace Sys2Proof.Machine

/-! ### the configuration (R8) -/

/-- No operation writes a parameter: the configuration is not among the elements its record update
names. -/
theorem exec_keeps_cfg (i : Instr) {s t : State} (h : exec i s = .next t) : t.cfg = s.cfg := by
  cases i with
  | nop => cases h; rfl
  | tick => rw [exec, execTick_eq] at h; cases h; rfl
  | rstph => rw [exec, execRstph_eq] at h; cases h; rfl
  | swchk k =>
    cases k with
    | rangeOverride => rw [exec, execSwchk_rangeOverride_eq] at h; cases h; rfl
    | waveformShape => rw [exec, execSwchk_waveformShape_eq] at h; cases h; rfl
  | rauto => rw [exec, execRauto_eq] at h; cases h; rfl
  | pcalc =>
    rw [exec, execPcalc_eq] at h
    cases h
    split
    · exact s.recompute_cfg ..
    · rfl
  | commit => rw [exec, execCommit_eq] at h; cases h; rfl

/-- Nor do the agents' bookkeeping, the ports or the reset action, which resets the block in the
configuration it already has. -/
theorem step_keeps_cfg {s t : State} (h : step s = .next t) : t.cfg = s.cfg :=
  step_keeps (P := fun u => u.cfg = s.cfg)
    (outside := fun _ _ _ _ hu => hu)
    (reset := fun _ _ _ hu => hu)
    (operation := fun i _ _ hu hv => (exec_keeps_cfg i hv).trans hu)
    rfl h

/-- Settles O12: every operation keeps the configuration, hence every step does. -/
theorem configurationIsConstant : Obligations.ConfigurationIsConstant :=
  ⟨fun i _ _ h => exec_keeps_cfg i h, fun _ _ h => step_keeps_cfg h⟩

/-! ### the agents (R5, R115) -/

/-- Settles O6: the word the tick context presents decodes to `TICK`. -/
theorem tickContextIssuesTick : Obligations.TickContextIssuesTick :=
  fun _ _ h => step_tick h

/-- Settles O9: driving the ports presents no command word, and neither does the end of the list. -/
theorem environmentDrivesOnlyThePorts : Obligations.EnvironmentDrivesOnlyThePorts :=
  ⟨fun _ _ _ h => step_drive h, fun _ h => step_idle h⟩

/-! ### building the block (R7, R104) -/

theorem State.boot_of_legal {c : Config} (h : c.legal = true) :
    State.boot c = .next (State.resetOf c) := by
  simp [State.boot, h]

theorem State.boot_of_illegal {c : Config} (h : c.legal = false) :
    State.boot c = .refused .illegalConfiguration := by
  simp [State.boot, h]

/-- Settles O16, by the two branches of the check. -/
theorem onlyIllegalConfigurationsAreRefused : Obligations.OnlyIllegalConfigurationsAreRefused :=
  fun _ => ⟨State.boot_of_legal, State.boot_of_illegal⟩

end Sys2Proof.Machine

/-! PROOFS. The state: what each operation writes (R42), the values after reset (R33), the invariants
that hold there, that every step keeps and that every reachable state therefore meets (R32), and that
they keep every register within its width (R30). -/

namespace Sys2Proof.Machine

variable {c : Config} {s t : State} {i : Instr}

/-! ### ranges of the arithmetic -/

theorem halfIncrement_ge (c : Config) (half : Nat) : 1 ≤ halfIncrement c half := le_max_left ..

theorem halfIncrement_le (hS : 1 ≤ c.scaled) (half : Nat) : halfIncrement c half ≤ c.scaled :=
  max_le hS (Nat.div_le_self ..)

/-- R91: the raise to 1 and the division of `S` bound both elements, whatever period and duty. -/
theorem incPair_inRange (hS : 1 ≤ c.scaled) (per dv : Nat) : (incPair c per dv).InRange c :=
  ⟨halfIncrement_ge .., halfIncrement_le hS _, halfIncrement_ge .., halfIncrement_le hS _⟩

theorem triSample_le (c : Config) (p : Int) : triSample c p ≤ c.outRes := clamp_le (Nat.zero_le _)

theorem pulseLevel_le (c : Config) (r : Bool) : pulseLevel c r ≤ c.outRes := by
  cases r
  · exact Nat.zero_le _
  · exact le_rfl

theorem dutyValue_bounds (h : c.legal = true) (d : Nat) :
    c.dutyMin ≤ dutyValue c d ∧ dutyValue c d ≤ c.dutyMax := by
  obtain ⟨-, hmin, hmax, -⟩ := Config.legal_duty h
  exact ⟨le_clamp (hmin.trans hmax), clamp_le (hmin.trans hmax)⟩

/-- R47: a ROM read lies between the two ends of its row. -/
theorem periodRom_between (h : c.legal = true) (high : Bool) {k : Nat} (hk : k ≤ c.adcMax) :
    c.fastest high ≤ periodRom c high k ∧ periodRom c high k ≤ c.slowest high := by
  obtain ⟨-, hfirst, hlast, hmono, -⟩ := Config.legal_row h high
  have hread := periodRom_getElem h high hk
  exact ⟨nonIncreasing_getElem hmono hk hread hlast,
    nonIncreasing_getElem hmono (Nat.zero_le k) hfirst hread⟩

/-- R7 item 6: both ranges lie within the period bounds. -/
theorem range_within (h : c.legal = true) (high : Bool) :
    c.highFastest ≤ c.fastest high ∧ c.slowest high ≤ c.lowSlowest := by
  obtain ⟨-, hhigh, hmid, hlow, -⟩ := Config.legal_periods h
  cases high with
  | true => exact ⟨le_rfl, hmid.trans hlow⟩
  | false => exact ⟨hhigh.trans hmid, le_rfl⟩

/-- R32 item 4 for both period modes: the ROM's ends and the clamp of R87. -/
theorem targetPeriod_bounds (h : c.legal = true) (ext high : Bool) {f : Nat} (hf : f ≤ c.adcMax)
    (cp : Nat) :
    c.highFastest ≤ targetPeriod c ext high f cp ∧ targetPeriod c ext high f cp ≤ c.lowSlowest := by
  cases ext with
  | true =>
    obtain ⟨-, hhigh, hmid, hlow, -⟩ := Config.legal_periods h
    exact ⟨le_clamp (by omega), clamp_le (by omega)⟩
  | false =>
    obtain ⟨hge, hle⟩ := periodRom_between h high hf
    obtain ⟨hfast, hslow⟩ := range_within h high
    exact ⟨hfast.trans hge, hle.trans hslow⟩

/-! ### knob conditioning -/

theorem snap_le {k : Nat} (hk : k ≤ c.adcMax) : snap c k ≤ c.adcMax := by
  unfold snap; split_ifs <;> omega

/-- R80: the dead-zone moves no conditioned value again. -/
theorem snap_snap (h : c.legal = true) (k : Nat) : snap c (snap c k) = snap c k := by
  obtain ⟨-, hzone⟩ := Config.legal_knob h
  unfold snap; split_ifs <;> omega

theorem snap_zero (c : Config) : snap c 0 = 0 := if_pos (Nat.zero_le _)

/-- R81: the accepted value is the new one or the one observed last. -/
theorem acceptKnob_cases (c : Config) (force : Bool) (k last : Nat) :
    acceptKnob c force k last = k ∨ acceptKnob c force k last = last :=
  ite_eq_or_eq ..

theorem State.inKnobFreq_le (s : State) : s.inKnobFreq ≤ s.cfg.adcMax :=
  Nat.le_pred_of_lt (Nat.mod_lt _ (Nat.two_pow_pos _))

theorem State.inKnobDuty_le (s : State) : s.inKnobDuty ≤ s.cfg.adcMax :=
  Nat.le_pred_of_lt (Nat.mod_lt _ (Nat.two_pow_pos _))

theorem State.inClkPeriod_lt (s : State) : s.inClkPeriod < 2 ^ s.cfg.workBits :=
  Nat.mod_lt _ (Nat.two_pow_pos _)

theorem State.inNowMs_lt (s : State) : s.inNowMs < 2 ^ s.cfg.msBits :=
  Nat.mod_lt _ (Nat.two_pow_pos _)

theorem State.acceptedFreq_le (hlast : s.lastFreq ≤ s.cfg.adcMax) :
    s.acceptedFreq ≤ s.cfg.adcMax := by
  obtain h | h := acceptKnob_cases s.cfg s.pcForce (snap s.cfg s.inKnobFreq) s.lastFreq
  · exact h.trans_le (snap_le s.inKnobFreq_le)
  · exact h.trans_le hlast

theorem State.acceptedDuty_le (hlast : s.lastDuty ≤ s.cfg.adcMax) :
    s.acceptedDuty ≤ s.cfg.adcMax := by
  obtain h | h := acceptKnob_cases s.cfg s.pcForce (snap s.cfg s.inKnobDuty) s.lastDuty
  · exact h.trans_le (snap_le s.inKnobDuty_le)
  · exact h.trans_le hlast

/-- What `PCALC` records as the observed frequency knob is a conditioned value. -/
theorem State.snap_acceptedFreq (h : s.cfg.legal = true)
    (hlast : snap s.cfg s.lastFreq = s.lastFreq) :
    snap s.cfg s.acceptedFreq = s.acceptedFreq := by
  obtain hk | hk := acceptKnob_cases s.cfg s.pcForce (snap s.cfg s.inKnobFreq) s.lastFreq
  · rw [State.acceptedFreq, hk, snap_snap h]
  · rw [State.acceptedFreq, hk, hlast]

/-! ### the debouncer and the reflections -/

theorem State.checked_lastChange_lt (k : SwitchIndex)
    (h : (s.sw k).lastChange < 2 ^ s.cfg.msBits) : (s.checked k).lastChange < 2 ^ s.cfg.msBits := by
  unfold State.checked
  dsimp only
  split
  · exact h
  · exact s.inNowMs_lt

theorem State.stepped_of_rising (hr : s.rising = true) :
    s.stepped = s.phase + s.increment.rise := by
  simp [State.stepped, hr]

theorem State.stepped_of_falling (hr : s.rising = false) :
    s.stepped = s.phase - s.increment.fall := by
  simp [State.stepped, hr]

/-- R96, range of p: the phase before the two tests. -/
theorem Invariant.stepped_bounds (h : Invariant s) :
    -(s.cfg.scaled : Int) ≤ s.stepped ∧ s.stepped ≤ 2 * s.cfg.scaled := by
  obtain ⟨-, hrise, -, hfall⟩ := h.increment_ok
  have hlow := h.phase_nonneg
  have hhigh := h.phase_le
  cases hr : s.rising with
  | true => rw [State.stepped_of_rising hr]; omega
  | false => rw [State.stepped_of_falling hr]; omega

/-- R32 item 1: the two tests fold the phase back into `[0, S]`. -/
theorem Invariant.advance_bounds (h : Invariant s) :
    0 ≤ s.advance.p ∧ s.advance.p ≤ s.cfg.scaled := by
  obtain ⟨hlow, hhigh⟩ := h.stepped_bounds
  rw [State.advance_eq, reflectBottom_eq]
  dsimp only
  split_ifs <;> omega

/-- R96 corner case (e) and its mirror at the top: the step from inside a bound overshoots the other
one by less than `S`, so the reflection ends inside both. -/
theorem Turned.advance_inside (ht : Turned s) (h : Invariant s) :
    (s.advance.rising = true → s.advance.p < s.cfg.scaled) ∧
    (s.advance.rising = false → 0 < s.advance.p) := by
  obtain ⟨hrise, hrise', hfall, hfall'⟩ := h.increment_ok
  rw [State.advance_eq, reflectBottom_eq]
  cases hr : s.rising with
  | true =>
    have hlow := h.phase_nonneg
    have hbelow := ht.below_top hr
    rw [State.stepped_of_rising hr]
    dsimp only
    split_ifs <;> simp <;> omega
  | false =>
    have hhigh := h.phase_le
    have habove := ht.above_bottom hr
    rw [State.stepped_of_falling hr]
    dsimp only
    split_ifs <;> simp <;> omega

/-! ### the write matrix (R42) -/

theorem exec_nop_frame (h : exec .nop s = .next t) : t = s := by cases h; rfl

theorem exec_tick_frame (h : exec .tick s = .next t) :
    t = { s with
      phase := t.phase, rising := t.rising, sampleQ := t.sampleQ, events := t.events } := by
  rw [exec, execTick_eq] at h; cases h; rfl

theorem exec_rstph_frame (h : exec .rstph s = .next t) :
    t = { s with
      phase := t.phase, rising := t.rising, sampleQ := t.sampleQ, events := t.events } := by
  rw [exec, execRstph_eq] at h; cases h; rfl

theorem exec_swchk0_frame (h : exec (.swchk .rangeOverride) s = .next t) :
    t = { s with sw0 := t.sw0, highRange := t.highRange, events := t.events } := by
  rw [exec, execSwchk_rangeOverride_eq] at h; cases h; rfl

theorem exec_swchk1_frame (h : exec (.swchk .waveformShape) s = .next t) :
    t = { s with sw1 := t.sw1, triangleSelected := t.triangleSelected } := by
  rw [exec, execSwchk_waveformShape_eq] at h; cases h; rfl

theorem exec_rauto_frame (h : exec .rauto s = .next t) :
    t = { s with
      highRange := t.highRange, rsPrevClocked := t.rsPrevClocked, events := t.events } := by
  rw [exec, execRauto_eq] at h; cases h; rfl

/-- `PCALC` changes nothing or makes one recomputation (R83, R89). -/
theorem exec_pcalc_cases (h : exec .pcalc s = .next t) :
    t = s ∨ t = s.recompute s.acceptedFreq s.acceptedDuty s.ext s.inClkPeriod := by
  rw [exec, execPcalc_eq] at h
  cases h
  exact (ite_eq_or_eq ..).symm

theorem exec_pcalc_frame (h : exec .pcalc s = .next t) :
    t = { s with
      stageInc := t.stageInc, stageValid := t.stageValid, period := t.period,
      dutyCycle := t.dutyCycle, lastFreq := t.lastFreq, lastDuty := t.lastDuty,
      lastRange := t.lastRange, lastClocked := t.lastClocked, lastClkper := t.lastClkper,
      pcForce := t.pcForce } := by
  obtain rfl | rfl := exec_pcalc_cases h <;> rfl

theorem exec_commit_frame (h : exec .commit s = .next t) :
    t = { s with increment := t.increment, stageValid := t.stageValid } := by
  rw [exec, execCommit_eq] at h; cases h; rfl

/-- Settles O13: each row is the frame of its operation. -/
theorem writeMatrix : Obligations.WriteMatrix :=
  ⟨fun _ _ => exec_nop_frame, fun _ _ => exec_tick_frame, fun _ _ => exec_rstph_frame,
    fun _ _ => exec_swchk0_frame, fun _ _ => exec_swchk1_frame, fun _ _ => exec_rauto_frame,
    fun _ _ => exec_pcalc_frame, fun _ _ => exec_commit_frame⟩

/-- The write matrix read by column, for the elements that the invariants speak of: an operation that
is not the element's writer leaves it as it was. -/
structure LeavesUnwritten (i : Instr) (s t : State) : Prop where
  /-- S0, S1, S11: the tick context's elements and the latch. -/
  wave : i ≠ .tick → i ≠ .rstph →
    t.phase = s.phase ∧ t.rising = s.rising ∧ t.sampleQ = s.sampleQ
  /-- S2, S3. -/
  increment : i ≠ .commit → t.increment = s.increment
  /-- S4, S5, S7, S8: what a recomputation gives. -/
  outputs : i ≠ .pcalc →
    t.stageInc = s.stageInc ∧ t.period = s.period ∧ t.dutyCycle = s.dutyCycle
  /-- S13 to S18: what a recomputation has observed. -/
  observed : i ≠ .pcalc →
    t.lastFreq = s.lastFreq ∧ t.lastDuty = s.lastDuty ∧ t.lastRange = s.lastRange ∧
    t.lastClocked = s.lastClocked ∧ t.lastClkper = s.lastClkper ∧ t.pcForce = s.pcForce
  /-- S19, S21, S23. -/
  sw0 : i ≠ .swchk .rangeOverride → t.sw0 = s.sw0
  /-- S20, S22, S24. -/
  sw1 : i ≠ .swchk .waveformShape → t.sw1 = s.sw1

theorem LeavesUnwritten.sw (hs : LeavesUnwritten i s t) (k : SwitchIndex) (hi : i ≠ .swchk k) :
    t.sw k = s.sw k := by
  cases k with
  | rangeOverride => exact hs.sw0 hi
  | waveformShape => exact hs.sw1 hi

theorem exec_leavesUnwritten (h : exec i s = .next t) : LeavesUnwritten i s t := by
  cases i with
  | nop => rw [exec_nop_frame h]; constructor <;> simp
  | tick => rw [exec_tick_frame h]; constructor <;> simp
  | rstph => rw [exec_rstph_frame h]; constructor <;> simp
  | swchk k =>
    cases k with
    | rangeOverride => rw [exec_swchk0_frame h]; constructor <;> simp
    | waveformShape => rw [exec_swchk1_frame h]; constructor <;> simp
  | rauto => rw [exec_rauto_frame h]; constructor <;> simp
  | pcalc => rw [exec_pcalc_frame h]; constructor <;> simp
  | commit => rw [exec_commit_frame h]; constructor <;> simp

/-! ### what an operation emits (R71, R99) -/

theorem notifications_append (l m : List Event) :
    notifications (l ++ m) = notifications l ++ notifications m := by
  induction l with
  | nil => rfl
  | cons e l ih => cases e <;> simp [notifications, ih]

theorem samples_append (l m : List Event) : samples (l ++ m) = samples l ++ samples m := by
  induction l with
  | nil => rfl
  | cons e l ih => cases e <;> simp [samples, ih]

/-- An operation that leads from `s` to `t` appends `new` to the event sequence. -/
structure Emission (s t : State) (new : List Event) : Prop where
  /-- R11. -/
  events : t.events = s.events ++ new
  /-- R71: one notification, of the new range, exactly on a change of range. -/
  notified : notifications new = if t.highRange = s.highRange then [] else [t.highRange]
  /-- R99: at most one sample, in range, and the latch follows it. -/
  latched : samples new = [] ∧ t.sampleQ = s.sampleQ ∨
    samples new = [t.sampleQ] ∧ t.sampleQ ≤ s.cfg.outRes

theorem Emission.silent (he : t.events = s.events) (hr : t.highRange = s.highRange)
    (hq : t.sampleQ = s.sampleQ) : Emission s t [] where
  events := by simp [he]
  notified := by simp [hr, notifications]
  latched := .inl ⟨rfl, hq⟩

theorem Emission.sample {v : Nat} (he : t.events = s.events ++ [.sampleWrite v])
    (hr : t.highRange = s.highRange) (hq : t.sampleQ = v) (hv : v ≤ s.cfg.outRes) :
    Emission s t [.sampleWrite v] where
  events := he
  notified := by simp [hr, notifications]
  latched := .inr ⟨by simp [hq, samples], hq ▸ hv⟩

theorem Emission.notification {b : Bool} (he : t.events = s.events ++ [.rangeNotify b])
    (hr : t.highRange = b) (hne : s.highRange ≠ b) (hq : t.sampleQ = s.sampleQ) :
    Emission s t [.rangeNotify b] where
  events := he
  notified := by simp [hr, hne.symm, notifications]
  latched := .inl ⟨rfl, hq⟩

theorem exec_tick_emits (h : exec .tick s = .next t) : ∃ new, Emission s t new := by
  rw [exec, execTick_eq] at h
  cases h
  cases htri : s.triangleSelected with
  | true => exact ⟨_, .sample (by simp) rfl (by simp) (triSample_le _ s.advance.p)⟩
  | false =>
    by_cases hturn : s.advance.rising = s.rising
    · exact ⟨[], .silent (by simp [hturn]) rfl (by simp [hturn])⟩
    · exact ⟨_, .sample (by simp [hturn]) rfl (by simp [hturn])
        (pulseLevel_le _ s.advance.rising)⟩

theorem exec_rstph_emits (h : exec .rstph s = .next t) : ∃ new, Emission s t new := by
  rw [exec, execRstph_eq] at h
  cases h
  by_cases hturn : s.triangleSelected = false ∧ s.rising = false
  · exact ⟨_, .sample (by simp [hturn]) rfl (by simp [hturn]) le_rfl⟩
  · exact ⟨[], .silent (by simp [hturn]) rfl (by simp [hturn])⟩

theorem exec_swchk0_emits (h : exec (.swchk .rangeOverride) s = .next t) :
    ∃ new, Emission s t new := by
  rw [exec, execSwchk_rangeOverride_eq] at h
  cases h
  by_cases hreq : s.fires .rangeOverride = true ∧
      s.eventBound .rangeOverride (s.engages .rangeOverride) = true ∧ s.ext = false
  · by_cases hr : s.highRange = s.engages .rangeOverride
    · exact ⟨[], .silent (by simp [hr]) (by simp [hr]) rfl⟩
    · exact ⟨_, .notification (by simp [hreq, hr]) (by simp [hreq]) hr rfl⟩
  · have hquiet : ¬(s.fires .rangeOverride = true ∧
        s.eventBound .rangeOverride (s.engages .rangeOverride) = true ∧ s.ext = false ∧
        s.highRange ≠ s.engages .rangeOverride) :=
      fun ⟨hf, hb, he, _⟩ => hreq ⟨hf, hb, he⟩
    exact ⟨[], .silent (by simp only [if_neg hquiet, List.append_nil]) (if_neg hreq) rfl⟩

theorem exec_rauto_emits (h : exec .rauto s = .next t) : ∃ new, Emission s t new := by
  rw [exec, execRauto_eq] at h
  cases h
  cases hsel : s.autoRange with
  | none => exact ⟨[], .silent (by simp) rfl rfl⟩
  | some b =>
    by_cases hr : s.highRange = b
    · exact ⟨[], .silent (by simp [hr]) (by simp [hr]) rfl⟩
    · exact ⟨_, .notification (by simp [hr]) rfl hr rfl⟩

/-- R12: what every operation appends to the event sequence, and how the level outputs follow it. -/
theorem exec_emits (h : exec i s = .next t) : ∃ new, Emission s t new := by
  cases i with
  | nop => rw [exec_nop_frame h]; exact ⟨[], .silent rfl rfl rfl⟩
  | tick => exact exec_tick_emits h
  | rstph => exact exec_rstph_emits h
  | swchk k =>
    cases k with
    | rangeOverride => exact exec_swchk0_emits h
    | waveformShape => rw [exec_swchk1_frame h]; exact ⟨[], .silent rfl rfl rfl⟩
  | rauto => exact exec_rauto_emits h
  | pcalc => rw [exec_pcalc_frame h]; exact ⟨[], .silent rfl rfl rfl⟩
  | commit => rw [exec_commit_frame h]; exact ⟨[], .silent rfl rfl rfl⟩

/-- A list that alternates goes on alternating when the other value follows its last one. -/
theorem alternatesFrom_concat {l : List Bool} {h b : Bool} (hl : alternatesFrom h l = true)
    (hb : b ≠ l.getLast?.getD (!h)) : alternatesFrom h (l ++ [b]) = true := by
  induction l generalizing h with
  | nil => simpa [alternatesFrom] using hb
  | cons a l ih =>
    simp only [alternatesFrom, Bool.and_eq_true, beq_iff_eq] at hl
    obtain ⟨rfl, hrest⟩ := hl
    have hb' : b ≠ l.getLast?.getD (!!a) := by simpa [List.getLast?_cons] using hb
    simpa [alternatesFrom] using ih hrest hb'

/-- R41, R76, R99: the agreement of events and level outputs survives an emission. -/
theorem EventsAgree.of_emission (hs : EventsAgree s) (hc : t.cfg = s.cfg) {new : List Event}
    (he : Emission s t new) : EventsAgree t := by
  have hn : notifications t.events = notifications s.events ++ notifications new := by
    rw [he.events, notifications_append]
  have hv : samples t.events = samples s.events ++ samples new := by
    rw [he.events, samples_append]
  have hrange := hs.last_range
  have hsample := hs.last_sample
  rw [he.notified] at hn
  have notified : alternatesFrom true (notifications t.events) = true ∧
      t.rangeInd = (notifications t.events).getLast?.getD false := by
    rw [hn]
    split
    next hr => simpa [State.rangeInd, hr] using ⟨hs.alternate, hrange⟩
    next hr =>
      refine ⟨alternatesFrom_concat hs.alternate ?_, by simp [State.rangeInd]⟩
      rwa [Bool.not_true, ← hrange]
  have latched : (∀ v ∈ samples t.events, v ≤ t.cfg.outRes) ∧
      t.sampleOut = (samples t.events).getLast?.getD t.cfg.outRes := by
    rw [hv, hc]
    obtain ⟨hnone, hq⟩ | ⟨hone, hle⟩ := he.latched
    · simpa [hnone, State.sampleOut, hq] using ⟨hs.bounded, hsample⟩
    · rw [hone]
      refine ⟨fun v hmem => ?_, by simp [State.sampleOut]⟩
      obtain hold | hnew := List.mem_append.1 hmem
      · exact hs.bounded v hold
      · exact List.mem_singleton.1 hnew ▸ hle
  exact ⟨notified.1, notified.2, latched.1, latched.2⟩

/-! ### reset (R33) -/

/-- Settles O14: each element is written out in `State.resetOf`. -/
theorem resetValues : Obligations.ResetValues := by
  intro c
  refine ⟨rfl, rfl, rfl, rfl, rfl, rfl, rfl, rfl, rfl, rfl, rfl, rfl, rfl, rfl, rfl, rfl, rfl,
    fun i => ?_⟩
  cases i <;> exact ⟨rfl, rfl, rfl⟩

theorem reset_invariant (h : c.legal = true) : Invariant (State.resetOf c) := by
  have hS := Config.legal_scaled_pos h
  obtain ⟨-, hhigh, hmid, hlow, -⟩ := Config.legal_periods h
  obtain ⟨-, hmin, hmax, hadc⟩ := Config.legal_duty h
  exact {
    cfg_legal := h
    phase_nonneg := le_rfl
    phase_le := Int.natCast_nonneg _
    increment_ok := incPair_inRange hS ..
    stageInc_ok := incPair_inRange hS ..
    sampleQ_le := le_rfl
    period_ge := hhigh.trans (hmid.trans hlow)
    period_le := le_rfl
    duty_ge := hmin
    duty_le := hmax
    lastFreq_le := Nat.zero_le _
    lastDuty_le := hmax.trans hadc.le
    lastClkper_lt := Nat.two_pow_pos _
    sw0_lt := Nat.two_pow_pos _
    sw1_lt := Nat.two_pow_pos _ }

theorem reset_turned (h : c.legal = true) : Turned (State.resetOf c) where
  below_top _ := Int.natCast_pos.2 (Config.legal_scaled_pos h)
  above_bottom hr := nomatch hr

/-- Reset computes its pair from the slowest period and the middle duty. -/
theorem reset_pairsComputed (h : c.legal = true) : PairsComputed (State.resetOf c) := by
  have hi := reset_invariant h
  have hpair : (incPair c c.lowSlowest c.resetDuty).Computed c :=
    ⟨_, _, hi.period_ge, hi.period_le, hi.duty_ge, hi.duty_le, rfl⟩
  exact ⟨hpair, hpair⟩

theorem reset_eventsAgree (c : Config) : EventsAgree (State.resetOf c) where
  alternate := rfl
  last_range := rfl
  bounded _ hv := nomatch hv
  last_sample := rfl

theorem reset_observedAgree (c : Config) : ObservedAgree (State.resetOf c) where
  snapped := snap_zero c
  period h := nomatch h
  duty h := nomatch h
  staged h := nomatch h

/-- The invariants of R32 and the four beside them. -/
def MeetsTheInvariants (s : State) : Prop :=
  Invariant s ∧ Turned s ∧ PairsComputed s ∧ EventsAgree s ∧ ObservedAgree s

theorem reset_meetsTheInvariants (h : c.legal = true) : MeetsTheInvariants (State.resetOf c) :=
  ⟨reset_invariant h, reset_turned h, reset_pairsComputed h, reset_eventsAgree c,
    reset_observedAgree c⟩

/-- Settles O17: one lemma per invariant. -/
theorem invariantsHoldAtReset : Obligations.InvariantsHoldAtReset :=
  fun _ h => reset_meetsTheInvariants h

theorem ref_legal : Config.ref.legal = true := by decide +kernel

/-- Settles O18: REF is a legal configuration. -/
theorem invariantsHoldAtModelReset : Obligations.InvariantsHoldAtModelReset :=
  reset_meetsTheInvariants ref_legal

/-! ### every operation keeps the invariants -/

theorem exec_keeps_phase_bounds (hs : Invariant s) (h : exec i s = .next t) :
    0 ≤ t.phase ∧ t.phase ≤ s.cfg.scaled := by
  by_cases htick : i = .tick
  · rw [htick, exec, execTick_eq] at h
    cases h
    exact hs.advance_bounds
  by_cases hrstph : i = .rstph
  · rw [hrstph, exec, execRstph_eq] at h
    cases h
    exact ⟨le_rfl, Int.natCast_nonneg _⟩
  obtain ⟨hp, -, -⟩ := (exec_leavesUnwritten h).wave htick hrstph
  exact hp ▸ ⟨hs.phase_nonneg, hs.phase_le⟩

/-- R32 item 3: what is written to the latch is in range, in every state. -/
theorem exec_keeps_sampleQ_le (hs : s.sampleQ ≤ s.cfg.outRes) (h : exec i s = .next t) :
    t.sampleQ ≤ s.cfg.outRes := by
  obtain ⟨new, he⟩ := exec_emits h
  obtain ⟨-, hq⟩ | ⟨-, hle⟩ := he.latched
  · exact hq ▸ hs
  · exact hle

/-- `COMMIT` publishes the staged pair or leaves the committed one (R90), and no other operation
writes the committed pair. -/
theorem exec_increment_cases (h : exec i s = .next t) :
    t.increment = s.increment ∨ t.increment = s.stageInc := by
  by_cases hi : i = .commit
  · rw [hi, exec, execCommit_eq] at h
    cases h
    exact (ite_eq_or_eq ..).symm
  · exact .inl ((exec_leavesUnwritten h).increment hi)

/-- The elements a recomputation writes are in the bounds of R30 and R32. -/
structure RecomputedInRange (c : Config) (t : State) : Prop where
  /-- S4, S5. -/
  stageInc : t.stageInc.InRange c
  /-- S7. -/
  period : c.highFastest ≤ t.period ∧ t.period ≤ c.lowSlowest
  /-- S8. -/
  duty : c.dutyMin ≤ t.dutyCycle ∧ t.dutyCycle ≤ c.dutyMax
  /-- S13, S14. -/
  knobs : t.lastFreq ≤ c.adcMax ∧ t.lastDuty ≤ c.adcMax
  /-- S17. -/
  clkper : t.lastClkper < 2 ^ c.workBits

theorem Invariant.recomputedInRange (hs : Invariant s) : RecomputedInRange s.cfg s where
  stageInc := hs.stageInc_ok
  period := ⟨hs.period_ge, hs.period_le⟩
  duty := ⟨hs.duty_ge, hs.duty_le⟩
  knobs := ⟨hs.lastFreq_le, hs.lastDuty_le⟩
  clkper := hs.lastClkper_lt

/-- R84 to R88: the accepted knobs are readings, so what is computed from them is in range. -/
theorem recompute_recomputedInRange (hs : Invariant s) :
    RecomputedInRange s.cfg
      (s.recompute s.acceptedFreq s.acceptedDuty s.ext s.inClkPeriod) := by
  have hf := State.acceptedFreq_le hs.lastFreq_le
  exact {
    stageInc := incPair_inRange (Config.legal_scaled_pos hs.cfg_legal) ..
    period := targetPeriod_bounds hs.cfg_legal _ _ hf _
    duty := dutyValue_bounds hs.cfg_legal _
    knobs := ⟨hf, State.acceptedDuty_le hs.lastDuty_le⟩
    clkper := by
      rw [State.recompute_lastClkper]
      split
      · exact s.inClkPeriod_lt
      · exact hs.lastClkper_lt }

theorem exec_keeps_recomputedInRange (hs : Invariant s) (h : exec i s = .next t) :
    RecomputedInRange s.cfg t := by
  by_cases hi : i = .pcalc
  · obtain rfl | rfl := exec_pcalc_cases (hi ▸ h)
    · exact hs.recomputedInRange
    · exact recompute_recomputedInRange hs
  · obtain ⟨hstage, hper, hduty⟩ := (exec_leavesUnwritten h).outputs hi
    obtain ⟨hf, hd, -, -, hcp, -⟩ := (exec_leavesUnwritten h).observed hi
    exact {
      stageInc := hstage ▸ hs.stageInc_ok
      period := hper ▸ ⟨hs.period_ge, hs.period_le⟩
      duty := hduty ▸ ⟨hs.duty_ge, hs.duty_le⟩
      knobs := ⟨hf ▸ hs.lastFreq_le, hd ▸ hs.lastDuty_le⟩
      clkper := hcp ▸ hs.lastClkper_lt }

theorem exec_swchk_sw {k : SwitchIndex} (h : exec (.swchk k) s = .next t) :
    t.sw k = s.checked k := by
  cases k with
  | rangeOverride => rw [exec, execSwchk_rangeOverride_eq] at h; cases h; rfl
  | waveformShape => rw [exec, execSwchk_waveformShape_eq] at h; cases h; rfl

theorem exec_keeps_lastChange_lt (k : SwitchIndex)
    (hs : (s.sw k).lastChange < 2 ^ s.cfg.msBits) (h : exec i s = .next t) :
    (t.sw k).lastChange < 2 ^ s.cfg.msBits := by
  by_cases hi : i = .swchk k
  · rw [exec_swchk_sw (hi ▸ h)]
    exact s.checked_lastChange_lt k hs
  · rwa [(exec_leavesUnwritten h).sw k hi]

/-- R32: the invariant, element by element of the write matrix. -/
theorem exec_keeps_invariant (hs : Invariant s) (h : exec i s = .next t) : Invariant t := by
  have hc := exec_keeps_cfg i h
  have hphase := exec_keeps_phase_bounds hs h
  have hpair : t.increment.InRange s.cfg := by
    obtain he | he := exec_increment_cases h
    · exact he ▸ hs.increment_ok
    · exact he ▸ hs.stageInc_ok
  have hsample := exec_keeps_sampleQ_le hs.sampleQ_le h
  have hpcalc := exec_keeps_recomputedInRange hs h
  have hsw0 := exec_keeps_lastChange_lt .rangeOverride hs.sw0_lt h
  have hsw1 := exec_keeps_lastChange_lt .waveformShape hs.sw1_lt h
  rw [← hc] at hphase hpair hsample hpcalc hsw0 hsw1
  exact {
    cfg_legal := hc ▸ hs.cfg_legal
    phase_nonneg := hphase.1
    phase_le := hphase.2
    increment_ok := hpair
    stageInc_ok := hpcalc.stageInc
    sampleQ_le := hsample
    period_ge := hpcalc.period.1
    period_le := hpcalc.period.2
    duty_ge := hpcalc.duty.1
    duty_le := hpcalc.duty.2
    lastFreq_le := hpcalc.knobs.1
    lastDuty_le := hpcalc.knobs.2
    lastClkper_lt := hpcalc.clkper
    sw0_lt := hsw0
    sw1_lt := hsw1 }

/-- R96 corner case (e): only `TICK` and `RSTPH` move the phase, and `RSTPH` puts it at the bottom of
the rising half. -/
theorem exec_keeps_turned (hs : Invariant s) (ht : Turned s) (h : exec i s = .next t) :
    Turned t := by
  by_cases htick : i = .tick
  · rw [htick, exec, execTick_eq] at h
    cases h
    obtain ⟨hbelow, habove⟩ := ht.advance_inside hs
    exact ⟨hbelow, habove⟩
  by_cases hrstph : i = .rstph
  · rw [hrstph, exec, execRstph_eq] at h
    cases h
    exact ⟨fun _ => Int.natCast_pos.2 (Config.legal_scaled_pos hs.cfg_legal), fun hr => nomatch hr⟩
  obtain ⟨hp, hr, -⟩ := (exec_leavesUnwritten h).wave htick hrstph
  constructor <;> rw [hp, hr]
  · exact exec_keeps_cfg i h ▸ ht.below_top
  · exact ht.above_bottom

/-- R51 item 3: a recomputation stages a pair as a whole, `COMMIT` publishes it as a whole. -/
theorem exec_keeps_pairsComputed (hs : Invariant s) (hp : PairsComputed s)
    (h : exec i s = .next t) : PairsComputed t := by
  have hincrement : t.increment.Computed s.cfg := by
    obtain he | he := exec_increment_cases h
    · exact he ▸ hp.increment
    · exact he ▸ hp.stageInc
  have hstage : t.stageInc.Computed s.cfg := by
    by_cases hi : i = .pcalc
    · obtain rfl | rfl := exec_pcalc_cases (hi ▸ h)
      · exact hp.stageInc
      · have hr := recompute_recomputedInRange hs
        exact ⟨_, _, hr.period.1, hr.period.2, hr.duty.1, hr.duty.2, rfl⟩
    · obtain ⟨he, -, -⟩ := (exec_leavesUnwritten h).outputs hi
      exact he ▸ hp.stageInc
  rw [← exec_keeps_cfg i h] at hincrement hstage
  exact ⟨hincrement, hstage⟩

theorem exec_keeps_eventsAgree (hs : EventsAgree s) (h : exec i s = .next t) : EventsAgree t := by
  obtain ⟨_, he⟩ := exec_emits h
  exact hs.of_emission (exec_keeps_cfg i h) he

/-- R89: a recomputation records exactly what it has used; the clock period it does not record, while
not externally clocked, it has not used. -/
theorem recompute_observedAgree (hc : s.cfg.legal = true) (hs : ObservedAgree s) :
    ObservedAgree (s.recompute s.acceptedFreq s.acceptedDuty s.ext s.inClkPeriod) where
  snapped := State.snap_acceptedFreq hc hs.snapped
  period _ := by cases s.ext <;> simp [targetPeriod]
  duty _ := rfl
  staged _ := rfl

theorem exec_keeps_observedAgree (hc : s.cfg.legal = true) (hs : ObservedAgree s)
    (h : exec i s = .next t) : ObservedAgree t := by
  by_cases hi : i = .pcalc
  · obtain rfl | rfl := exec_pcalc_cases (hi ▸ h)
    · exact hs
    · exact recompute_observedAgree hc hs
  · obtain ⟨hstage, hper, hduty⟩ := (exec_leavesUnwritten h).outputs hi
    obtain ⟨hf, hd, hr, he, hcp, hforce⟩ := (exec_leavesUnwritten h).observed hi
    have hcfg := exec_keeps_cfg i h
    constructor <;> simp only [hstage, hper, hduty, hf, hd, hr, he, hcp, hforce, hcfg]
    · exact hs.snapped
    · exact hs.period
    · exact hs.duty
    · exact hs.staged

/-! ### every step keeps the invariants (R32) -/

/-! The invariants speak of no element that the agents or the environment own. -/

theorem Invariant.outside (hs : Invariant s) (rest : List Arrival) (q : PollPos) (p : Ports) :
    Invariant { s.sched rest q with ports := p } := { hs with }

theorem Turned.outside (hs : Turned s) (rest : List Arrival) (q : PollPos) (p : Ports) :
    Turned { s.sched rest q with ports := p } := { hs with }

theorem PairsComputed.outside (hs : PairsComputed s) (rest : List Arrival) (q : PollPos)
    (p : Ports) : PairsComputed { s.sched rest q with ports := p } := { hs with }

theorem EventsAgree.outside (hs : EventsAgree s) (rest : List Arrival) (q : PollPos) (p : Ports) :
    EventsAgree { s.sched rest q with ports := p } := { hs with }

theorem ObservedAgree.outside (hs : ObservedAgree s) (rest : List Arrival) (q : PollPos)
    (p : Ports) : ObservedAgree { s.sched rest q with ports := p } := { hs with }

/-- Settles O19: every operation keeps the invariant and the reset action establishes it. -/
theorem stepKeepsInvariant : Obligations.StepKeepsInvariant :=
  fun _ _ hs h => step_keeps
    (outside := fun _ rest q p hs => hs.outside rest q p)
    (reset := fun _ rest p hs => (reset_invariant hs.cfg_legal).outside rest .swchk0 p)
    (operation := fun _ _ _ hs h => exec_keeps_invariant hs h) hs h

/-- Settles O23: as for O19, with the legal configuration, which the dead-zone needs, carried
along. -/
theorem stepKeepsObservedInAgreement : Obligations.StepKeepsObservedInAgreement := by
  intro s t hc hs h
  have both : t.cfg.legal = true ∧ ObservedAgree t :=
    step_keeps (P := fun u => u.cfg.legal = true ∧ ObservedAgree u)
      (outside := fun _ rest q p ⟨hc, hs⟩ => ⟨hc, hs.outside rest q p⟩)
      (reset := fun u rest p ⟨hc, _⟩ => ⟨hc, (reset_observedAgree u.cfg).outside rest .swchk0 p⟩)
      (operation := fun i _ _ ⟨hc, hs⟩ h =>
        ⟨exec_keeps_cfg i h ▸ hc, exec_keeps_observedAgree hc hs h⟩) ⟨hc, hs⟩ h
  exact both.2

theorem MeetsTheInvariants.outside (hs : MeetsTheInvariants s) (rest : List Arrival) (q : PollPos)
    (p : Ports) : MeetsTheInvariants { s.sched rest q with ports := p } := by
  obtain ⟨hi, ht, hp, he, ho⟩ := hs
  exact ⟨hi.outside .., ht.outside .., hp.outside .., he.outside .., ho.outside ..⟩

theorem exec_keeps_meetsTheInvariants (hs : MeetsTheInvariants s) (h : exec i s = .next t) :
    MeetsTheInvariants t := by
  obtain ⟨hi, ht, hp, he, ho⟩ := hs
  exact ⟨exec_keeps_invariant hi h, exec_keeps_turned hi ht h, exec_keeps_pairsComputed hi hp h,
    exec_keeps_eventsAgree he h, exec_keeps_observedAgree hi.cfg_legal ho h⟩

theorem step_keeps_meetsTheInvariants (hs : MeetsTheInvariants s) (h : step s = .next t) :
    MeetsTheInvariants t :=
  step_keeps
    (outside := fun _ rest q p hs => hs.outside rest q p)
    (reset := fun _ rest p ⟨hi, _⟩ =>
      (reset_meetsTheInvariants hi.cfg_legal).outside rest .swchk0 p)
    (operation := fun _ _ _ hs h => exec_keeps_meetsTheInvariants hs h) hs h

/-! ### every reachable state -/

theorem exec_next (i : Instr) (s : State) : ∃ t, exec i s = .next t := by
  cases i <;> exact ⟨_, rfl⟩

/-- R104: a step answers a next state, whatever the agents do. -/
theorem step_next (s : State) : ∃ t, step s = .next t := by
  cases ha : s.arrivals with
  | nil => exact ⟨_, step_idle ha⟩
  | cons a rest =>
    cases a with
    | tick => rw [step_tick ha]; exact exec_next ..
    | poll => rw [step_poll ha]; exact exec_next ..
    | drive p => exact ⟨_, step_drive ha⟩
    | reset => exact ⟨_, step_reset ha⟩
    | command w =>
      rw [step_command ha]
      cases decode w with
      | operation i => exact exec_next ..
      | reserved w => exact ⟨_, rfl⟩

/-- What every step keeps holds after any number of steps, which all answer a next state. -/
theorem runSteps_keeps {P : State → Prop} (hstep : ∀ s t, P s → step s = .next t → P t) (n : Nat) :
    ∀ s, P s → ∃ t, runSteps n s = .next t ∧ P t := by
  induction n with
  | zero => exact fun s hs => ⟨s, rfl, hs⟩
  | succ n ih =>
    intro s hs
    obtain ⟨u, hu⟩ := step_next s
    rw [runSteps_succ hu]
    exact ih u (hstep s u hs hu)

/-- Settles O24: the invariants hold at reset, whatever actions are to come, and every step keeps
them. -/
theorem everyReachableStateMeetsTheInvariants :
    Obligations.EveryReachableStateMeetsTheInvariants := by
  intro c actions n hc
  have start := (reset_meetsTheInvariants hc).outside actions .swchk0 Ports.idle
  obtain ⟨t, hrun, hi, ht, hp, he, ho⟩ :=
    runSteps_keeps (fun _ _ => step_keeps_meetsTheInvariants) n _ start
  exact ⟨t, hrun, hi, ht, hp, he, ho, rfl⟩

/-! ### register widths (R30) -/

theorem Increments.InRange.fits (hc : c.legal = true) {p : Increments} (h : p.InRange c) :
    p.rise < 2 ^ c.workBits ∧ p.fall < 2 ^ c.workBits := by
  obtain ⟨-, hrise, -, hfall⟩ := h
  have hS : c.scaled < 2 ^ c.workBits := (Config.legal_scaled hc).2.trans_lt c.maxW_lt
  exact ⟨hrise.trans_lt hS, hfall.trans_lt hS⟩

/-- R7 item 2 leaves the signed register room for the phase. -/
theorem Invariant.phase_fits (h : Invariant s) :
    -(2 ^ (s.cfg.phaseBits - 1)) ≤ s.phase ∧ s.phase < 2 ^ (s.cfg.phaseBits - 1) := by
  have hroom : (2 * s.cfg.scaled : Int) < 2 ^ (s.cfg.phaseBits - 1) := by
    exact_mod_cast Config.legal_phase h.cfg_legal
  have hlow := h.phase_nonneg
  have hhigh := h.phase_le
  omega

/-- Settles O25: each bound of the invariant is below the power of two of its register. -/
theorem invariantStatesFitTheirRegisters : Obligations.InvariantStatesFitTheirRegisters := by
  intro s h
  have hc := h.cfg_legal
  obtain ⟨-, -, -, -, hslowest⟩ := Config.legal_periods hc
  obtain ⟨-, -, -, hduty⟩ := Config.legal_duty hc
  exact {
    phase := h.phase_fits
    increment := h.increment_ok.fits hc
    stageInc := h.stageInc_ok.fits hc
    period := (h.period_le.trans hslowest).trans_lt s.cfg.maxW_lt
    dutyCycle := (h.duty_le.trans hduty.le).trans_lt s.cfg.adcMax_lt
    sampleQ := h.sampleQ_le.trans_lt Nat.lt_log2_self
    lastKnobs := ⟨h.lastFreq_le.trans_lt s.cfg.adcMax_lt, h.lastDuty_le.trans_lt s.cfg.adcMax_lt⟩
    lastClkper := h.lastClkper_lt
    lastChange := ⟨h.sw0_lt, h.sw1_lt⟩ }

/-! ### the poll context (R24) -/

/-- Settles O7: at each position the operation and the position after it are those of R24. -/
theorem pollContextIssuesTheNextMicroOperation :
    Obligations.PollContextIssuesTheNextMicroOperation := by
  intro s rest h
  rw [step_poll h]
  refine ⟨?_, ?_, ?_, ?_, ?_⟩ <;> intro hq <;> rw [hq] <;> rfl

end Sys2Proof.Machine

/-! PROOFS. The memory: what is copied between the contexts as a whole (R51, R90), and the contents of
the two ROMs (R47, R49). -/

namespace Sys2Proof.Machine

variable {c : Config}

/-! ### whole pairs (R51 item 3) -/

/-- Settles O21: a recomputation stages a pair as a whole, `COMMIT` publishes the staged pair as a
whole, and the reset action sets both to one computed pair. The invariant, which bounds what a
recomputation computes from, is carried along. -/
theorem stepKeepsPairsWhole : Obligations.StepKeepsPairsWhole := by
  intro s t hs hp h
  have both : Invariant t ∧ PairsComputed t :=
    step_keeps (P := fun u => Invariant u ∧ PairsComputed u)
      (outside := fun _ rest q p ⟨hs, hp⟩ => ⟨hs.outside rest q p, hp.outside rest q p⟩)
      (reset := fun _ rest p ⟨hs, _⟩ =>
        ⟨(reset_invariant hs.cfg_legal).outside rest .swchk0 p,
          (reset_pairsComputed hs.cfg_legal).outside rest .swchk0 p⟩)
      (operation := fun _ _ _ ⟨hs, hp⟩ h =>
        ⟨exec_keeps_invariant hs h, exec_keeps_pairsComputed hs hp h⟩) ⟨hs, hp⟩ h
  exact both.2

/-! ### the period ROM (R47) -/

/-- R47 item 1. -/
theorem periodRom_zero (h : c.legal = true) (high : Bool) : periodRom c high 0 = c.slowest high := by
  obtain ⟨-, hfirst, -⟩ := Config.legal_row h high
  exact Option.some.inj ((periodRom_getElem h high (Nat.zero_le _)).symm.trans hfirst)

/-- R47 item 2. -/
theorem periodRom_adcMax (h : c.legal = true) (high : Bool) :
    periodRom c high c.adcMax = c.fastest high := by
  obtain ⟨-, -, hlast, -⟩ := Config.legal_row h high
  exact Option.some.inj ((periodRom_getElem h high le_rfl).symm.trans hlast)

/-- R47 item 3, between any two readings. -/
theorem periodRom_antitone (h : c.legal = true) (high : Bool) {j k : Nat} (hjk : j ≤ k)
    (hk : k ≤ c.adcMax) : periodRom c high k ≤ periodRom c high j := by
  obtain ⟨-, -, -, hmono, -⟩ := Config.legal_row h high
  exact nonIncreasing_getElem hmono hjk (periodRom_getElem h high (hjk.trans hk))
    (periodRom_getElem h high hk)

/-- Settles O51: the pinned ends and the order of the row; an entry is at least the fastest period of
its range, and that is at least `HIGH_FASTEST`. -/
theorem periodRomFallsFromSlowestToFastest : Obligations.PeriodRomFallsFromSlowestToFastest := by
  intro c high h
  refine ⟨periodRom_zero h high, periodRom_adcMax h high,
    fun j k hjk hk => periodRom_antitone h high hjk hk, fun k hk => ?_⟩
  obtain ⟨hge, hle⟩ := periodRom_between h high hk
  have hfastest : c.highFastest ≤ periodRom c high k := (range_within h high).1.trans hge
  exact ⟨hge, hle, hfastest, (Config.legal_periods h).1.trans hfastest⟩

/-! ### the clock-ratio ROM (R49) -/

/-- The falling half, up to the unity entry. -/
theorem coefRom_of_le (c : Config) {i : Nat} (hi : i ≤ c.nRatio - 1) :
    coefRom c i = c.nRatio - 1 - i + 1 := by
  rw [coefRom, absdiff, if_pos hi]

/-- The rising half, from the unity entry on. -/
theorem coefRom_of_ge (c : Config) {i : Nat} (hi : c.nRatio - 1 ≤ i) :
    coefRom c i = i - (c.nRatio - 1) + 1 := by
  unfold coefRom absdiff
  split <;> omega

/-- R49's closed form over the integers. -/
theorem coefRom_eq_abs (hN : 1 ≤ c.nRatio) (i : Nat) :
    (coefRom c i : Int) = |(i : Int) - ((c.nRatio : Int) - 1)| + 1 := by
  obtain hi | hi := le_total i (c.nRatio - 1)
  · rw [coefRom_of_le c hi, abs_of_nonpos (by omega)]
    omega
  · rw [coefRom_of_ge c hi, abs_of_nonneg (by omega)]
    omega

/-- Settles O52, half by half around the unity entry `N_RATIO - 1`. -/
theorem coefficientTableIsSymmetric : Obligations.CoefficientTableIsSymmetric := by
  intro c hN
  refine ⟨coefRom_eq_abs hN, ?first, ?last, ?middle, ?falling, ?rising⟩
  case first => rw [coefRom_of_le c (Nat.zero_le _)]; omega
  case last => rw [coefRom_of_ge c (by omega)]; omega
  case middle => rw [coefRom_of_le c le_rfl]; omega
  case falling =>
    intro i j hij hj
    rw [coefRom_of_le c hj, coefRom_of_le c (hij.trans hj)]
    omega
  case rising =>
    intro i j hi hij
    rw [coefRom_of_ge c hi, coefRom_of_ge c (hi.trans hij)]
    omega

end Sys2Proof.Machine

/-! PROOFS. The encoding: the decoder and the encoder (R57, R58, R60, R61), what a command word
makes of one step (R57, R60), and the `POLL` expansion the poll context issues (R59, R24, R90). -/

namespace Sys2Proof.Machine

variable {s t : State} {i : Instr} {w : CmdWord}

/-! ### the fields of a command word (R57) -/

theorem word_toNat_eq_fields (w : CmdWord) :
    w.toNat = 16 * w.op.toNat + 2 * w.z.toNat + w.s.toNat := by
  have hop : w.op.toNat = w.toNat / 16 % 16 := by
    simp [CmdWord.op, Nat.shiftRight_eq_div_pow]
  have hz : w.z.toNat = w.toNat / 2 % 8 := by
    simp [CmdWord.z, Nat.shiftRight_eq_div_pow]
  have hs : w.s.toNat = w.toNat % 2 := by
    simp [CmdWord.s, BitVec.getLsbD, Nat.toNat_testBit, -Nat.testBit_zero]
  have hw := w.isLt
  omega

/-- The three fields are the whole word. -/
theorem word_ext {v : CmdWord} (hop : w.op = v.op) (hz : w.z = v.z) (hs : w.s = v.s) : w = v := by
  apply BitVec.eq_of_toNat_eq
  rw [word_toNat_eq_fields w, word_toNat_eq_fields v, hop, hz, hs]

theorem word_z (i : Instr) : i.word.z = 0#3 := by
  cases i with
  | swchk k => cases k <;> rfl
  | _ => rfl

theorem word_s_swchk (k : SwitchIndex) : (Instr.swchk k).word.s.toNat = k.number := by
  cases k <;> rfl

/-! ### the decoder (R58, R60) -/

/-- The fields that name an operation are the ones its word has. -/
theorem decodeFields_eq_some {op : BitVec 4} {b : Bool} (h : decodeFields op b = some i) :
    op = i.word.op ∧ b = i.word.s := by
  unfold decodeFields at h
  split at h <;> cases h
  case h_4 b _ _ hop => cases b <;> exact ⟨BitVec.eq_of_toNat_eq hop, rfl⟩
  all_goals exact ⟨BitVec.eq_of_toNat_eq ‹_›, rfl⟩

/-- R60: the codes 7 to 15, and the select bit on any other operation than `SWCHK`. -/
theorem decodeFields_eq_none_iff (op : BitVec 4) (b : Bool) :
    decodeFields op b = none ↔ 7 ≤ op.toNat ∨ (b = true ∧ op ≠ 3#4) := by
  revert op b; decide

theorem decode_of_z_ne (h : w.z ≠ 0#3) : decode w = .reserved w := by
  simp [decode, h]

theorem decode_of_fields_none (h : decodeFields w.op w.s = none) : decode w = .reserved w := by
  simp [decode, h]

theorem decode_of_fields_some (hz : w.z = 0#3) (h : decodeFields w.op w.s = some i) :
    decode w = .operation i := by
  simp [decode, hz, h]

/-- The decoder takes a word that stands for an operation to it and keeps every other word. -/
theorem decode_cases (w : CmdWord) :
    (∃ i, w = i.word ∧ decode w = .operation i) ∨ decode w = .reserved w := by
  by_cases hz : w.z = 0#3
  · cases hf : decodeFields w.op w.s with
    | none => exact .inr (decode_of_fields_none hf)
    | some i =>
      obtain ⟨hop, hs⟩ := decodeFields_eq_some hf
      exact .inl ⟨i, word_ext hop (hz.trans (word_z i).symm) hs, decode_of_fields_some hz hf⟩
  · exact .inr (decode_of_z_ne hz)

theorem decode_eq_operation_iff : decode w = .operation i ↔ w = i.word := by
  constructor
  · intro h
    obtain ⟨j, hw, hj⟩ | hr := decode_cases w
    · cases h.symm.trans hj
      exact hw
    · cases h.symm.trans hr
  · rintro rfl
    exact decode_word i

theorem decode_eq_reserved_iff : decode w = .reserved w ↔ ∀ i : Instr, w ≠ i.word := by
  constructor
  · rintro h i rfl
    cases h.symm.trans (decode_word i)
  · intro h
    obtain ⟨i, hw, -⟩ | hr := decode_cases w
    · exact absurd hw (h i)
    · exact hr

theorem word_injective {i j : Instr} (h : i.word = j.word) : i = j := by
  have hd := decode_word i
  rw [h, decode_word] at hd
  cases hd
  rfl

/-- R60 in the fields of the word. -/
theorem decode_eq_reserved_iff_fields :
    decode w = .reserved w ↔ 7 ≤ w.op.toNat ∨ w.z ≠ 0#3 ∨ (w.s = true ∧ w.op ≠ 3#4) := by
  have hnone := decodeFields_eq_none_iff w.op w.s
  by_cases hz : w.z = 0#3
  · cases hf : decodeFields w.op w.s with
    | none => simp_all [decode_of_fields_none hf]
    | some i => simp_all [decode_of_fields_some hz hf]
  · simp [decode_of_z_ne hz, hz]

/-- The list of defined words holds the word of every operation and no other. -/
theorem defined_iff : CmdWord.defined w = true ↔ ∃ i : Instr, w = i.word := by
  constructor
  · intro h
    simp only [CmdWord.defined, List.contains_iff_mem, List.mem_cons, List.not_mem_nil,
      or_false] at h
    obtain h | h | h | h | h | h | h | h := h
    exacts [⟨.nop, h⟩, ⟨.tick, h⟩, ⟨.rstph, h⟩, ⟨.swchk .rangeOverride, h⟩,
      ⟨.swchk .waveformShape, h⟩, ⟨.rauto, h⟩, ⟨.pcalc, h⟩, ⟨.commit, h⟩]
  · rintro ⟨i, rfl⟩
    cases i with
    | swchk k => cases k <;> rfl
    | _ => rfl

theorem reserved_wellFormed_iff :
    (Command.reserved w).wellFormed = true ↔ ∀ i : Instr, w ≠ i.word := by
  simp [Command.wellFormed, ← Bool.not_eq_true, defined_iff]

/-- Settles O3: by `decode_cases` a word is the word of an operation, which decoding gives back, or
is kept as a reserved word, and the words of the two kinds are told apart by the opcode map. -/
theorem decodeAndEncodeAgree : Obligations.DecodeAndEncodeAgree := by
  constructor
  · intro c hc
    cases c with
    | operation i => exact decode_word i
    | reserved w => exact decode_eq_reserved_iff.2 (reserved_wellFormed_iff.1 hc)
  · intro w
    obtain ⟨i, hw, hd⟩ | hd := decode_cases w
    · rw [hd]
      exact ⟨rfl, hw.symm⟩
    · rw [hd]
      exact ⟨reserved_wellFormed_iff.2 (decode_eq_reserved_iff.1 hd), rfl⟩

/-- Settles O1: the words written out are those of the encoder. -/
theorem definedWordsDecode : Obligations.DefinedWordsDecode :=
  ⟨decode_word .nop, decode_word .tick, decode_word .rstph, decode_word (.swchk .rangeOverride),
    decode_word (.swchk .waveformShape), decode_word .rauto, decode_word .pcalc,
    decode_word .commit⟩

/-! ### the match/mask rows (R58) -/

/-- A row whose mask has every bit set selects its match word alone. -/
theorem selects_of_full_mask {r : OpcodeRow} (h : r.mask = 0xFF#8) :
    r.selects w = true ↔ w = r.pattern := by
  have hw : w &&& 0xFF#8 = w := BitVec.and_allOnes
  simp [OpcodeRow.selects, h, hw]

/-- The one row that leaves a bit free, the switch select, selects the word of each switch. -/
theorem swchk_row_selects_iff (k : SwitchIndex) :
    (Instr.swchk k).row.selects w = true ↔ ∃ l : SwitchIndex, w = (Instr.swchk l).word := by
  constructor
  · intro h
    have hand : w &&& 0xFE#8 = 0x30#8 := beq_iff_eq.1 h
    have hop : w.op &&& 0xF#4 = 3#4 :=
      BitVec.extractLsb'_and.symm.trans (congrArg CmdWord.op hand)
    have hz : w.z &&& 0x7#3 = 0#3 :=
      BitVec.extractLsb'_and.symm.trans (congrArg CmdWord.z hand)
    rw [show w.op &&& 0xF#4 = w.op from BitVec.and_allOnes] at hop
    rw [show w.z &&& 0x7#3 = w.z from BitVec.and_allOnes] at hz
    cases hs : w.s with
    | false => exact ⟨.rangeOverride, word_ext hop hz hs⟩
    | true => exact ⟨.waveformShape, word_ext hop hz hs⟩
  · rintro ⟨l, rfl⟩
    rw [show (Instr.swchk k).row = { pattern := 0x30#8, mask := 0xFE#8 } from rfl]
    cases l <;> rfl

theorem row_selects_iff (hi : ∀ k, i ≠ .swchk k) : i.row.selects w = true ↔ w = i.word := by
  cases i with
  | swchk k => exact absurd rfl (hi k)
  | _ => exact selects_of_full_mask rfl

theorem row_selects_word (i : Instr) : i.row.selects i.word = true := by
  cases i with
  | swchk k => exact (swchk_row_selects_iff k).2 ⟨k, rfl⟩
  | _ => rfl

/-- A selected word is the word of an operation of that row. -/
theorem exists_word_of_row_selects (h : i.row.selects w = true) :
    ∃ j : Instr, j.row = i.row ∧ w = j.word := by
  by_cases hi : ∃ k, i = .swchk k
  · obtain ⟨k, rfl⟩ := hi
    obtain ⟨l, hl⟩ := (swchk_row_selects_iff k).1 h
    exact ⟨.swchk l, rfl, hl⟩
  · exact ⟨i, rfl, (row_selects_iff (not_exists.1 hi)).1 h⟩

/-- The select bit tells the words of `SWCHK` apart (R61). -/
theorem swchk_word_eq_iff (k l : SwitchIndex) :
    (Instr.swchk l).word = (Instr.swchk k).word ↔ k.number = (Instr.swchk l).word.s.toNat := by
  cases k <;> cases l <;> decide

theorem decode_eq_operation_iff_row :
    decode w = .operation i ↔
      i.row.selects w = true ∧ ∀ k, i = .swchk k → k.number = w.s.toNat := by
  rw [decode_eq_operation_iff]
  constructor
  · rintro rfl
    exact ⟨row_selects_word i, fun k hk => hk ▸ (word_s_swchk k).symm⟩
  · rintro ⟨hsel, hindex⟩
    by_cases hi : ∃ k, i = .swchk k
    · obtain ⟨k, rfl⟩ := hi
      obtain ⟨l, rfl⟩ := (swchk_row_selects_iff k).1 hsel
      exact (swchk_word_eq_iff k l).2 (hindex k rfl)
    · exact (row_selects_iff (not_exists.1 hi)).1 hsel

/-- Settles O2: each row selects the words of its own operations. -/
theorem opcodeRowsSelectTheirWords : Obligations.OpcodeRowsSelectTheirWords := by
  refine ⟨fun _ _ => decode_eq_operation_iff_row, ?disjoint, ?reserved⟩
  case disjoint =>
    intro w i j hi hj
    obtain ⟨i', hrow, rfl⟩ := exists_word_of_row_selects hi
    obtain ⟨j', hrow', hw⟩ := exists_word_of_row_selects hj
    rw [← hrow, ← hrow', word_injective hw]
  case reserved =>
    intro w
    rw [decode_eq_reserved_iff]
    constructor
    · intro h i
      by_contra hsel
      obtain ⟨j, -, hw⟩ := exists_word_of_row_selects (Bool.eq_true_of_not_eq_false hsel)
      exact h j hw
    · rintro h i rfl
      exact Bool.false_ne_true ((h i).symm.trans (row_selects_word i))

/-! ### what a command word makes of one step (R57, R60) -/

theorem step_command_operation {rest : List Arrival} (ha : s.arrivals = .command w :: rest)
    (hw : decode w = .operation i) : step s = exec i { s with arrivals := rest } := by
  rw [step_command ha, hw]
  rfl

theorem step_command_reserved {rest : List Arrival} (ha : s.arrivals = .command w :: rest)
    (hw : decode w = .reserved w) : step s = .next { s with arrivals := rest } := by
  rw [step_command ha, hw]
  rfl

theorem step_command_nop (s : State) (rest : List Arrival) :
    step { s with arrivals := .command (Instr.word .nop) :: rest } =
      .next { s with arrivals := rest } :=
  step_command_operation rfl (decode_word .nop)

/-- Settles O5: it is `step_command_operation`, for every word. -/
theorem stepRunsTheDecodedCommand : Obligations.StepRunsTheDecodedCommand :=
  fun _ _ _ _ => step_command_operation

theorem count_reserved_words :
    ((List.range 256).countP fun n =>
      decide (decode (BitVec.ofNat 8 n) = .reserved (BitVec.ofNat 8 n))) = 248 := by
  decide +kernel

/-- Settles O4: a reserved word and `NOP` both leave the state without the action. -/
theorem reservedWordsBehaveLikeNop : Obligations.ReservedWordsBehaveLikeNop := by
  refine ⟨fun _ => decode_eq_reserved_iff_fields, count_reserved_words, ?_⟩
  intro s w rest hw ha
  have hstep := step_command_reserved ha hw
  exact ⟨hstep, hstep.trans (step_command_nop s rest).symm⟩

/-! ### the `POLL` expansion (R59, R24) -/

/-- The operations that the next `n` steps of the poll context issue from position `q`. -/
def PollPos.opsFrom (q : PollPos) : Nat → List Instr
  | 0 => []
  | n + 1 => q.op :: q.succ.opsFrom n

theorem execSeq_cons (h : exec i s = .next t) (l : List Instr) :
    execSeq (i :: l) s = execSeq l t := by
  simp [execSeq, h]

theorem execSeq_next (l : List Instr) : ∀ s, ∃ t, execSeq l s = .next t := by
  induction l with
  | nil => exact fun s => ⟨s, rfl⟩
  | cons i l ih =>
    intro s
    obtain ⟨u, hu⟩ := exec_next i s
    rw [execSeq_cons hu]
    exact ih u

/-- One step of the poll context is its micro-operation, which does not see the agents' fields. -/
theorem step_poll_sched {q : PollPos} (h : exec q.op s = .next t) (rest : List Arrival) :
    step (s.sched (.poll :: rest) q) = .next (t.sched rest q.succ) := by
  have hexec := exec_sched q.op s rest q.succ
  rw [h] at hexec
  exact (step_poll rfl).trans hexec

/-- `n` steps of the poll context are the operations from its position on, one after the other. -/
theorem runSteps_polls (rest : List Arrival) (n : Nat) :
    ∀ (q : PollPos) (s t : State), execSeq (q.opsFrom n) s = .next t →
      runSteps n (s.sched (List.replicate n .poll ++ rest) q) =
        .next (t.sched rest (PollPos.succ^[n] q)) := by
  induction n with
  | zero =>
    intro q s t h
    cases h
    rfl
  | succ n ih =>
    intro q s t h
    obtain ⟨u, hu⟩ := exec_next q.op s
    rw [PollPos.opsFrom, execSeq_cons hu] at h
    rw [List.replicate_succ, List.cons_append, runSteps_succ (step_poll_sched hu _)]
    exact ih q.succ u t h

/-- Settles O8: the five steps from position 0 come back to it. -/
theorem pollIsItsFiveOperations : Obligations.PollIsItsFiveOperations := by
  intro s rest hq ha
  obtain ⟨t, ht⟩ := execSeq_next (PollPos.swchk0.opsFrom 5) s
  have hrun : runSteps 5 (s.sched (List.replicate 5 .poll ++ rest) .swchk0) =
      .next (t.sched rest .swchk0) := runSteps_polls rest 5 .swchk0 s t ht
  have hpolls : List.replicate 5 .poll ++ rest = s.arrivals := ha.symm
  rw [hpolls, show s.sched s.arrivals .swchk0 = s by rw [← hq, State.sched_self]] at hrun
  exact ⟨t, ht, hrun⟩

/-! ### the order of `POLL` and the staged pair (R59, R90) -/

theorem exec_keeps_agents (h : exec i s = .next t) :
    t.arrivals = s.arrivals ∧ t.pstep = s.pstep := by
  have hsched := exec_sched i s s.arrivals s.pstep
  rw [State.sched_self, h, mapSched, Host.Outcome.next.injEq] at hsched
  rw [hsched]
  exact ⟨rfl, rfl⟩

/-- The write matrix, S6: only `PCALC` and `COMMIT` write it. -/
theorem exec_keeps_stageValid (hp : i ≠ .pcalc) (hc : i ≠ .commit) (h : exec i s = .next t) :
    t.stageValid = s.stageValid := by
  cases i with
  | nop => rw [exec_nop_frame h]
  | tick => rw [exec_tick_frame h]
  | rstph => rw [exec_rstph_frame h]
  | swchk k =>
    cases k with
    | rangeOverride => rw [exec_swchk0_frame h]
    | waveformShape => rw [exec_swchk1_frame h]
  | rauto => rw [exec_rauto_frame h]
  | pcalc => exact absurd rfl hp
  | commit => exact absurd rfl hc

theorem exec_commit_stageValid (h : exec .commit s = .next t) : t.stageValid = false := by
  rw [exec, execCommit_eq] at h
  cases h
  rfl

/-- The two writers of S6 stand at positions 3 and 4. -/
theorem PollPos.op_ne {q : PollPos} (hp : q ≠ .pcalc) (hc : q ≠ .commit) :
    q.op ≠ .pcalc ∧ q.op ≠ .commit := by
  cases q with
  | pcalc => exact absurd rfl hp
  | commit => exact absurd rfl hc
  | _ => exact ⟨nofun, nofun⟩

/-- The words the discipline lets through: `RSTPH` and `NOP`, between two `POLL` sequences. -/
theorem pollDiscipline_command_iff {q : PollPos} {rest : List Arrival} :
    pollDiscipline q (.command w :: rest) = true ↔
      q = .swchk0 ∧ (w = Instr.word .rstph ∨ w = Instr.word .nop) ∧
        pollDiscipline q rest = true := by
  simp [pollDiscipline, and_assoc]

/-- The discipline of the actions to come, and the reading of S6 it upholds. -/
structure Disciplined (s : State) : Prop where
  /-- R59: whole `POLL` sequences. -/
  order : pollDiscipline s.pstep s.arrivals = true
  /-- R90: a pair is staged only between `PCALC` and the `COMMIT` after it. -/
  staged : s.stageValid = true → s.pstep = .commit

/-- An operation that does not write S6, issued without moving the poll agent. -/
theorem Disciplined.of_exec (hs : Disciplined s) {rest : List Arrival}
    (hrest : pollDiscipline s.pstep rest = true) (h : exec i (s.sched rest s.pstep) = .next t)
    (hp : i ≠ .pcalc) (hc : i ≠ .commit) : Disciplined t := by
  obtain ⟨harr, hpos⟩ := exec_keeps_agents h
  have hvalid := exec_keeps_stageValid hp hc h
  constructor
  · rwa [harr, hpos]
  · rw [hvalid, hpos]
    exact hs.staged

/-- The micro-operation of the poll context: `COMMIT` clears S6, `PCALC` may set it and leaves the
agent before `COMMIT`, and the others find it clear. -/
theorem Disciplined.staged_of_poll (hs : Disciplined s) {rest : List Arrival}
    (h : exec s.pstep.op (s.sched rest s.pstep.succ) = .next t) (ht : t.stageValid = true) :
    s.pstep.succ = .commit := by
  by_cases hc : s.pstep = .commit
  · rw [hc] at h
    cases ht.symm.trans (exec_commit_stageValid h)
  by_cases hp : s.pstep = .pcalc
  · rw [hp]
    rfl
  obtain ⟨hop, hoc⟩ := PollPos.op_ne hp hc
  rw [exec_keeps_stageValid hop hoc h] at ht
  exact absurd (hs.staged ht) hc

theorem Disciplined.of_poll (hs : Disciplined s) {rest : List Arrival}
    (hrest : pollDiscipline s.pstep.succ rest = true)
    (h : exec s.pstep.op (s.sched rest s.pstep.succ) = .next t) : Disciplined t := by
  obtain ⟨harr, hpos⟩ := exec_keeps_agents h
  constructor
  · rwa [harr, hpos]
  · rw [hpos]
    exact hs.staged_of_poll h

theorem step_keeps_disciplined (hs : Disciplined s) (h : step s = .next t) : Disciplined t := by
  have horder := hs.order
  cases step_cases h with
  | idle _ ht => exact ht ▸ hs
  | drive rest p ha ht =>
    rw [ha] at horder
    exact ht ▸ ⟨horder, hs.staged⟩
  | reset rest ha ht =>
    rw [ha] at horder
    exact ht ▸ ⟨horder, fun hv => nomatch hv⟩
  | reserved rest w ha hw ht =>
    rw [ha, pollDiscipline_command_iff] at horder
    obtain ⟨-, rfl | rfl, -⟩ := horder
    · exact absurd (decode_word _) (hw _)
    · exact absurd (decode_word _) (hw _)
  | command rest w i ha hw ht =>
    rw [ha, pollDiscipline_command_iff] at horder
    obtain ⟨-, rfl | rfl, hrest⟩ := horder
    · cases hw.symm.trans (decode_word _)
      exact hs.of_exec hrest ht nofun nofun
    · cases hw.symm.trans (decode_word _)
      exact hs.of_exec hrest ht nofun nofun
  | tick rest ha ht =>
    rw [ha] at horder
    exact hs.of_exec (rest := rest) horder ht nofun nofun
  | poll rest ha ht =>
    rw [ha] at horder
    exact hs.of_poll horder ht

/-- Settles O26: one case per action of the agents. -/
theorem disciplinedPollsCommitWhatTheyStage :
    Obligations.DisciplinedPollsCommitWhatTheyStage := by
  intro s t horder hstaged h
  obtain ⟨horder', hstaged'⟩ := step_keeps_disciplined ⟨horder, hstaged⟩ h
  exact ⟨horder', hstaged'⟩

end Sys2Proof.Machine

/-! PROOFS. The debounced switches: the elapsed time across a wrap of the millisecond clock (R70),
one poll of a switch (R65), and the acceptance of a level in a stream of actions (R69). -/

namespace Sys2Proof.Machine

variable {c : Config} {s t u : State} {i k : SwitchIndex} {v shape : Bool} {V W : ClockView}
  {seen : List Nat} {now : Nat}

/-! ### the elapsed time (R65, R70) -/

theorem elapsedMs_cast (c : Config) (now lastChange : Nat) :
    (elapsedMs c now lastChange : Int) = ((now : Int) - lastChange) % 2 ^ c.msBits :=
  Int.toNat_of_nonneg (Int.emod_nonneg _ (by positivity))

/-- R65 corner case (a): a timer restarted at this poll shows 0. -/
theorem elapsedMs_self (c : Config) (now : Nat) : elapsedMs c now now = 0 := by
  simp [elapsedMs]

/-- R70: the subtraction modulo `2^MS_BITS` undoes the reduction of the two times. -/
theorem elapsedMs_mod {t0 t1 : Nat} (hle : t0 ≤ t1) (hlt : t1 - t0 < 2 ^ c.msBits) :
    elapsedMs c (t1 % 2 ^ c.msBits) (t0 % 2 ^ c.msBits) = t1 - t0 := by
  have hdiff : (t1 : Int) - t0 = (t1 - t0 : Nat) := (Nat.cast_sub hle).symm
  have hcast : (elapsedMs c (t1 % 2 ^ c.msBits) (t0 % 2 ^ c.msBits) : Int) = (t1 - t0 : Nat) := by
    calc (elapsedMs c (t1 % 2 ^ c.msBits) (t0 % 2 ^ c.msBits) : Int)
        = ((t1 : Int) % 2 ^ c.msBits - (t0 : Int) % 2 ^ c.msBits) % 2 ^ c.msBits := by
          rw [elapsedMs_cast]; push_cast; rfl
      _ = ((t1 - t0 : Nat) : Int) % 2 ^ c.msBits := by rw [← Int.sub_emod, hdiff]
      _ = ((t1 - t0) % 2 ^ c.msBits : Nat) := by push_cast; rfl
      _ = (t1 - t0 : Nat) := by rw [Nat.mod_eq_of_lt hlt]
  exact Int.ofNat.inj hcast

/-- Settles O41: it is `elapsedMs_mod`. -/
theorem elapsedTimeIsTrueAcrossAWrap : Obligations.ElapsedTimeIsTrueAcrossAWrap :=
  fun _ _ _ => elapsedMs_mod

/-- R7 item 9: a poll less than half a wrap after one that came before the end of the settling
window comes less than a whole wrap after the window's start. -/
theorem debounce_add_half_lt (h : c.legal = true) :
    c.debounceMs + 2 ^ (c.msBits - 1) < 2 ^ c.msBits := by
  obtain ⟨hpos, hlt⟩ := Config.legal_debounce h
  cases hb : c.msBits with
  | zero => simp [hb] at hlt; omega
  | succ n => rw [hb, Nat.add_sub_cancel] at hlt; rw [Nat.add_sub_cancel, pow_succ]; omega

/-! ### the acceptance test (R65) -/

theorem State.ext_iff :
    s.ext = true ↔ s.inClkActive = true ∧ s.cfg.minClockPeriod < s.inClkPeriod := by
  simp [State.ext]

theorem State.fires_iff :
    s.fires i = true ↔
      s.cfg.debounceMs ≤ elapsedMs s.cfg s.inNowMs (s.checked i).lastChange ∧
      s.inSwRaw i ≠ (s.sw i).stable := by
  rw [State.fires, accepts_iff, settle_eq, State.checked]

/-- R65 corner case (a). -/
theorem State.not_fires_of_fresh (hc : s.cfg.legal = true)
    (hraw : s.inSwRaw i ≠ (s.sw i).lastRaw) : s.fires i = false := by
  have hpos := (Config.legal_debounce hc).1
  rw [Bool.eq_false_iff, Ne, State.fires_iff, State.checked, if_neg hraw, elapsedMs_self]
  omega

theorem State.checked_of_fresh (hc : s.cfg.legal = true) (hraw : s.inSwRaw i ≠ (s.sw i).lastRaw) :
    s.checked i =
      { stable := (s.sw i).stable, lastRaw := s.inSwRaw i, lastChange := s.inNowMs } := by
  simp [State.checked, s.not_fires_of_fresh hc hraw, hraw]

/-! ### one poll of a switch (R65) -/

/-- The whole effect of a poll on the range (R65, R67, R72): a bound event of switch 0 while not
externally clocked. -/
theorem exec_swchk_range (h : exec (.swchk i) s = .next t) :
    (i = .rangeOverride → s.fires i = true → s.eventBound i (s.engages i) = true → s.ext = false →
      t.highRange = s.engages i ∧
      t.events = s.events ++
        if s.highRange = s.engages i then [] else [.rangeNotify (s.engages i)]) ∧
    (i = .waveformShape ∨ s.fires i = false ∨ s.eventBound i (s.engages i) = false ∨ s.ext = true →
      t.highRange = s.highRange ∧ t.events = s.events) := by
  cases i with
  | rangeOverride =>
    rw [exec, execSwchk_rangeOverride_eq] at h
    cases h
    constructor
    · intro _ hfires hbound hext
      by_cases hr : s.highRange = s.engages .rangeOverride <;> simp [hfires, hbound, hext, hr]
    · rintro (hi | hfires | hbound | hext)
      · cases hi
      · simp [hfires]
      · simp [hbound]
      · simp [hext]
  | waveformShape =>
    rw [exec, execSwchk_waveformShape_eq] at h
    cases h
    exact ⟨nofun, fun _ => ⟨rfl, rfl⟩⟩

/-- The shape once a level of switch 1 is accepted: the bound event's, or what it was (R64, R67). -/
def shapeOnAccept (c : Config) (raw shape : Bool) : Bool :=
  let on := raw ^^ c.sw1.invert
  if (if on then c.sw1.engBound else c.sw1.disBound) then on else shape

theorem exec_swchk1_shape (h : exec (.swchk .waveformShape) s = .next t) :
    t.triangleSelected =
      if s.fires .waveformShape then
        shapeOnAccept s.cfg (s.inSwRaw .waveformShape) s.triangleSelected
      else s.triangleSelected := by
  rw [exec, execSwchk_waveformShape_eq] at h
  cases h
  cases s.fires .waveformShape
  · simp
  · simp only [true_and, if_true]; rfl

/-- The write matrix, S10: only `SWCHK 1` writes it. -/
theorem exec_keeps_triangleSelected {j : Instr} (hj : j ≠ .swchk .waveformShape)
    (h : exec j s = .next t) : t.triangleSelected = s.triangleSelected := by
  cases j with
  | nop => rw [exec_nop_frame h]
  | tick => rw [exec_tick_frame h]
  | rstph => rw [exec_rstph_frame h]
  | swchk k =>
    cases k with
    | rangeOverride => rw [exec_swchk0_frame h]
    | waveformShape => exact absurd rfl hj
  | rauto => rw [exec_rauto_frame h]
  | pcalc => rw [exec_pcalc_frame h]
  | commit => rw [exec_commit_frame h]

theorem exec_swchk_keeps_shape
    (hk : k = .rangeOverride ∨ s.fires k = false ∨ s.eventBound k (s.engages k) = false)
    (h : exec (.swchk k) s = .next t) : t.triangleSelected = s.triangleSelected := by
  cases k with
  | rangeOverride => exact exec_keeps_triangleSelected (by simp) h
  | waveformShape =>
    rw [exec, execSwchk_waveformShape_eq] at h
    cases h
    obtain hk | hfires | hbound := hk
    · cases hk
    · simp [hfires]
    · simp [hbound]

theorem exec_swchk_other (hk : k ≠ i) (h : exec (.swchk i) s = .next t) : t.sw k = s.sw k :=
  (exec_leavesUnwritten h).sw k (by simpa using hk.symm)

/-- The rows S19 to S24, S9 and S10 of the write matrix, for either switch. -/
theorem exec_swchk_frame (h : exec (.swchk i) s = .next t) :
    t = { s with
      sw0 := t.sw0, sw1 := t.sw1, highRange := t.highRange,
      triangleSelected := t.triangleSelected, events := t.events } := by
  cases i with
  | rangeOverride => rw [exec_swchk0_frame h]
  | waveformShape => rw [exec_swchk1_frame h]

/-- Settles O39: the record is `State.checked`, the range is `exec_swchk_range`, the shape is
`exec_swchk1_shape`, and the rest is the frame. -/
theorem swchkDebouncesAndDispatches : Obligations.SwchkDebouncesAndDispatches := by
  refine ⟨decode_word (.swchk .rangeOverride), decode_word (.swchk .waveformShape), fun i s => ?_⟩
  intro raw w change elapsed accepted on bound clocked
  have hfires : accepted ↔ s.fires i = true := by
    rw [State.fires_iff, ← Nat.cast_le (α := Int), elapsedMs_cast]; rfl
  have hnot : ¬accepted ↔ s.fires i = false := by rw [hfires, Bool.not_eq_true]
  have hclocked : clocked ↔ s.ext = true := State.ext_iff.symm
  have hfree : ¬clocked ↔ s.ext = false := by rw [hclocked, Bool.not_eq_true]
  obtain ⟨t, h⟩ := exec_next (.swchk i) s
  obtain ⟨hrange, hsame⟩ := exec_swchk_range h
  have hsw : t.sw i = s.checked i := exec_swchk_sw h
  refine ⟨t, h, hsw ▸ rfl, hsw ▸ rfl, ?_, ?_, ?_, ?_, ?_, ?_, ?_, exec_swchk_frame h⟩
  · intro ha
    rw [hsw, State.checked, hfires.mp ha]; rfl
  · intro ha
    rw [hsw, State.checked, hnot.mp ha]; rfl
  · exact fun hi ha hb he => hrange hi (hfires.mp ha) hb (hfree.mp he)
  · rintro rfl ha hb
    refine ⟨?_, (hsame (.inl rfl)).2⟩
    rw [exec_swchk1_shape h, if_pos (hfires.mp ha)]
    exact if_pos hb
  · rw [hnot, hclocked]
    exact hsame
  · rw [hnot]
    exact fun hk => exec_swchk_keeps_shape hk h
  · exact fun j hj => exec_swchk_other hj h

/-- Settles O40: the restarted timer shows 0, which is less than `DEBOUNCE_MS`. -/
theorem freshChangeFiresNothing : Obligations.FreshChangeFiresNothing := by
  intro i s hc hraw
  obtain ⟨t, h⟩ := exec_next (.swchk i) s
  have hfires := s.not_fires_of_fresh hc hraw
  have hsw : t.sw i = _ := (exec_swchk_sw h).trans (s.checked_of_fresh hc hraw)
  obtain ⟨hrange, hevents⟩ := (exec_swchk_range h).2 (.inr (.inl hfires))
  exact ⟨t, h, hsw ▸ rfl, hsw ▸ rfl, hsw ▸ rfl, hrange,
    exec_swchk_keeps_shape (.inr (.inl hfires)) h, hevents⟩

/-! ### the input stream, one action at a time (R40) -/

/-- The write matrix, the input ports: no operation drives them (R43). -/
theorem exec_keeps_ports {j : Instr} (h : exec j s = .next t) : t.ports = s.ports := by
  cases j with
  | nop => rw [exec_nop_frame h]
  | tick => rw [exec_tick_frame h]
  | rstph => rw [exec_rstph_frame h]
  | swchk k => rw [exec_swchk_frame h]
  | rauto => rw [exec_rauto_frame h]
  | pcalc => rw [exec_pcalc_frame h]
  | commit => rw [exec_commit_frame h]

theorem step_arrivals {a : Arrival} {tail : List Arrival} (ha : s.arrivals = a :: tail)
    (h : step s = .next t) : t.arrivals = tail := by
  cases step_cases h with
  | idle hs _ => cases hs.symm.trans ha
  | drive _ _ hs ht => cases hs.symm.trans ha; rw [ht]
  | reset _ hs ht => cases hs.symm.trans ha; rw [ht]
  | reserved _ _ hs _ ht => cases hs.symm.trans ha; rw [ht]
  | command _ _ _ hs _ ht => cases hs.symm.trans ha; exact (exec_keeps_agents ht).1
  | tick _ hs ht => cases hs.symm.trans ha; exact (exec_keeps_agents ht).1
  | poll _ hs ht => cases hs.symm.trans ha; exact (exec_keeps_agents ht).1

theorem State.inputEvents_of_check {a : Arrival} (hr : a ≠ .reset)
    (ha : (s.act a).2.bind checkedSwitch = some k) (l : List Arrival) :
    s.inputEvents (a :: l) = .sampled ((s.act a).1.sampling k) :: (s.act a).1.inputEvents l := by
  cases a with
  | reset => exact absurd rfl hr
  | _ => simp only [State.inputEvents, ha]

theorem State.inputEvents_of_no_check {a : Arrival} (hr : a ≠ .reset)
    (ha : (s.act a).2.bind checkedSwitch = none) (l : List Arrival) :
    s.inputEvents (a :: l) = (s.act a).1.inputEvents l := by
  cases a with
  | reset => exact absurd rfl hr
  | _ => simp only [State.inputEvents, ha]

theorem checkedSwitch_of_swchk {w : CmdWord} (hw : decode w = .operation (.swchk k)) :
    checkedSwitch w = some k := by
  simp [checkedSwitch, hw]

theorem checkedSwitch_of_other {w : CmdWord} (hw : ∀ k, decode w ≠ .operation (.swchk k)) :
    checkedSwitch w = none := by
  unfold checkedSwitch
  split
  · next k hk => exact absurd hk (hw k)
  · rfl

/-- What one action other than a reset means for the switches: it polls none, and the input stream
shows no sampling, or it executes one `SWCHK`, and the stream shows what that samples. -/
inductive ActionCase (s t : State) (a : Arrival) (tail : List Arrival) : Prop where
  /-- No `SWCHK`. -/
  | quiet (hev : ∀ l, s.inputEvents (a :: l) = t.inputEvents l) (hsw : t.sw = s.sw)
      (hshape : t.triangleSelected = s.triangleSelected)
  /-- A `SWCHK`, by the poll agent's position or as a word. -/
  | check (k : SwitchIndex) (q : PollPos)
      (hev : ∀ l, s.inputEvents (a :: l) = .sampled (s.sampling k) :: t.inputEvents l)
      (h : exec (.swchk k) (s.sched tail q) = .next t)

/-- An action that executes no operation: new levels on the ports, or a reserved word. -/
theorem ActionCase.of_no_check {a : Arrival} {tail : List Arrival} (hr : a ≠ .reset)
    (hk : (s.act a).2.bind checkedSwitch = none) (ht : t = { (s.act a).1 with arrivals := tail }) :
    ActionCase s t a tail := by
  have hact : (s.act a).1.sw = s.sw ∧ (s.act a).1.triangleSelected = s.triangleSelected := by
    cases a with
    | reset => exact absurd rfl hr
    | _ => exact ⟨rfl, rfl⟩
  subst ht
  exact .quiet
    (fun l => (State.inputEvents_of_no_check hr hk l).trans (State.inputEvents_congr l rfl rfl rfl))
    hact.1 hact.2

/-- An action that presents the word of an operation. -/
theorem ActionCase.of_exec {a : Arrival} {tail : List Arrival} {q : PollPos} {w : CmdWord}
    {j : Instr} (hr : a ≠ .reset) (ha : s.act a = (s.sched s.arrivals q, some w))
    (hw : decode w = .operation j) (h : exec j (s.sched tail q) = .next t) :
    ActionCase s t a tail := by
  have hnext (l : List Arrival) : (s.act a).1.inputEvents l = t.inputEvents l :=
    State.inputEvents_congr l (ha ▸ (exec_keeps_cfg j h).symm) (ha ▸ (exec_keeps_ports h).symm)
      (ha ▸ (exec_keeps_agents h).2.symm)
  by_cases hj : ∃ k, j = .swchk k
  · obtain ⟨k, rfl⟩ := hj
    have hk : (s.act a).2.bind checkedSwitch = some k := by rw [ha]; exact checkedSwitch_of_swchk hw
    have hsample : (s.act a).1.sampling k = s.sampling k := by rw [ha]; rfl
    exact .check k q (fun l => by rw [State.inputEvents_of_check hr hk, hsample, hnext]) h
  · have hother (k : SwitchIndex) : j ≠ .swchk k := fun hk => hj ⟨k, hk⟩
    have hk : (s.act a).2.bind checkedSwitch = none := by
      rw [ha]; exact checkedSwitch_of_other (by simpa [hw] using hother)
    exact .quiet (fun l => by rw [State.inputEvents_of_no_check hr hk, hnext])
      (funext fun k => (exec_leavesUnwritten h).sw k (hother k))
      (exec_keeps_triangleSelected (s := s.sched tail q) (hother _) h)

theorem step_actionCase {a : Arrival} {tail : List Arrival} (ha : s.arrivals = a :: tail)
    (hr : a ≠ .reset) (h : step s = .next t) : ActionCase s t a tail := by
  cases step_cases h with
  | idle hs _ => cases hs.symm.trans ha
  | reset _ hs _ => cases hs.symm.trans ha; exact absurd rfl hr
  | drive _ _ hs ht => cases hs.symm.trans ha; exact .of_no_check hr rfl ht
  | reserved _ _ hs hw ht =>
    cases hs.symm.trans ha
    exact .of_no_check hr (checkedSwitch_of_other fun k => hw (.swchk k)) ht
  | command _ _ _ hs hw ht => cases hs.symm.trans ha; exact .of_exec hr rfl hw ht
  | tick _ hs ht => cases hs.symm.trans ha; exact .of_exec hr rfl (decode_word .tick) ht
  | poll _ hs ht => cases hs.symm.trans ha; exact .of_exec hr rfl (decode_word _) ht

/-! ### the premise on the clock (R40) -/

@[simp] theorem ClockView.now_see (V : ClockView) (now : Nat) (k : SwitchIndex) :
    (V.see now k).now = some now := by
  cases k <;> rfl

@[simp] theorem ClockView.last_see_self (V : ClockView) (now : Nat) (k : SwitchIndex) :
    (V.see now k).last k = some now := by
  cases k <;> rfl

theorem ClockView.last_see_other (hk : k ≠ i) (V : ClockView) (now : Nat) :
    (V.see now k).last i = V.last i := by
  cases k <;> cases i
  · exact absurd rfl hk
  · rfl
  · rfl
  · exact absurd rfl hk

theorem ClockView.admits_iff :
    V.admits c now i = true ↔
      (∀ a, V.now = some a → a ≤ now) ∧ ∀ a, V.last i = some a → now < a + 2 ^ (c.msBits - 1) := by
  simp [ClockView.admits, Option.all_eq_true]

/-- A sampling in the stream has the first of the true times, and that time meets the premise. -/
theorem clockObeys_sampled {x : Sampling} {events : List InputEvent} {times : List Nat}
    (h : clockObeys c V (.sampled x :: events) times = true) :
    ∃ now later, times = now :: later ∧ now % 2 ^ c.msBits = x.now ∧
      V.admits c now x.switch = true ∧
      clockObeys c (V.see now x.switch) events later = true := by
  cases times with
  | nil => simp [clockObeys] at h
  | cons now later =>
    simp only [clockObeys, Bool.and_eq_true, decide_eq_true_eq, and_assoc] at h
    exact ⟨now, later, rfl, h⟩

theorem State.sampling_switch (s : State) (k : SwitchIndex) : (s.sampling k).switch = k := rfl

theorem checkTimes_sampled_self {x : Sampling} (hx : x.switch = i) {events : List InputEvent}
    {later : List Nat} :
    checkTimes i (.sampled x :: events) (now :: later) = now :: checkTimes i events later :=
  if_pos hx

theorem checkTimes_sampled_other {x : Sampling} (hx : x.switch ≠ i) {events : List InputEvent}
    {later : List Nat} :
    checkTimes i (.sampled x :: events) (now :: later) = checkTimes i events later :=
  if_neg hx

/-! ### the acceptance of a level (R69) -/

/-- How far switch `i` has come with a level `v` that its polls see from the first on. The list
holds the true times of these polls, `V` is when the clock was last sampled, `shape` the shape before. -/
inductive Watched (i : SwitchIndex) (v shape : Bool) (s : State) (V : ClockView) :
    List Nat → Prop where
  /-- No poll has come. -/
  | unseen (hstable : (s.sw i).stable ≠ v) (hlast : (s.sw i).lastRaw ≠ v)
      (hshape : i = .waveformShape → s.triangleSelected = shape) : Watched i v shape s V []
  /-- The timer runs since `t0`, and the last poll, at `prev`, came before its end. -/
  | pending (t0 prev latest : Nat) (later : List Nat)
      (hstable : (s.sw i).stable ≠ v) (hlast : (s.sw i).lastRaw = v)
      (hchange : (s.sw i).lastChange = t0 % 2 ^ s.cfg.msBits)
      (hnow : V.now = some latest) (hlatest : t0 ≤ latest)
      (hpoll : V.last i = some prev) (hprev : prev < t0 + s.cfg.debounceMs)
      (hearly : ∀ now ∈ later, now < t0 + s.cfg.debounceMs)
      (hshape : i = .waveformShape → s.triangleSelected = shape) :
      Watched i v shape s V (t0 :: later)
  /-- A poll at or after the end of the timer has accepted the level. -/
  | accepted (t0 : Nat) (later : List Nat)
      (hstable : (s.sw i).stable = v) (hlast : (s.sw i).lastRaw = v)
      (hdue : ∃ now ∈ later, t0 + s.cfg.debounceMs ≤ now)
      (hshape : i = .waveformShape → s.triangleSelected = shapeOnAccept s.cfg v shape) :
      Watched i v shape s V (t0 :: later)

/-- What touches neither the record nor the shape, and samples the clock for no poll of the switch,
changes nothing; the clock may go on. -/
theorem Watched.frame (hs : Watched i v shape s V seen) (hc : t.cfg = s.cfg) (hsw : t.sw i = s.sw i)
    (hshape : i = .waveformShape → t.triangleSelected = s.triangleSelected)
    (hpoll : W.last i = V.last i)
    (hnow : ∀ a, V.now = some a → ∃ b, W.now = some b ∧ a ≤ b) : Watched i v shape t W seen := by
  cases hs with
  | unseen hstable hlast hold =>
    exact .unseen (hsw ▸ hstable) (hsw ▸ hlast) fun hi => (hshape hi).trans (hold hi)
  | pending t0 prev latest later hstable hlast hchange hlatest hle hprev hlt hearly hold =>
    obtain ⟨b, hb, hab⟩ := hnow latest hlatest
    rw [← hsw] at hstable hlast hchange
    rw [← hc] at hchange hlt hearly
    exact .pending t0 prev b later hstable hlast hchange hb (hle.trans hab) (hpoll.trans hprev) hlt
      hearly fun hi => (hshape hi).trans (hold hi)
  | accepted t0 later hstable hlast hdue hnew =>
    rw [← hsw] at hstable hlast
    rw [← hc] at hdue hnew
    exact .accepted t0 later hstable hlast hdue fun hi => (hshape hi).trans (hnew hi)

theorem Watched.of_quiet (hs : Watched i v shape s V seen) (hc : t.cfg = s.cfg) (hsw : t.sw = s.sw)
    (hshape : t.triangleSelected = s.triangleSelected) : Watched i v shape t V seen :=
  hs.frame hc (congrFun hsw i) (fun _ => hshape) rfl fun a ha => ⟨a, ha, le_rfl⟩

theorem Watched.of_other (hs : Watched i v shape s V seen) (hk : k ≠ i)
    (hadmits : V.admits s.cfg now k = true) (h : exec (.swchk k) s = .next t) :
    Watched i v shape t (V.see now k) seen := by
  obtain ⟨hmono, -⟩ := ClockView.admits_iff.mp hadmits
  refine hs.frame (exec_keeps_cfg _ h) (exec_swchk_other hk.symm h) (fun hi => ?_)
    (ClockView.last_see_other hk V now) fun a ha => ⟨now, ClockView.now_see .., hmono a ha⟩
  exact exec_keeps_triangleSelected (by rintro ⟨⟩; exact hk hi.symm) h

/-- While the timer runs the elapsed time is the true one: a poll accepts exactly at its end. -/
theorem State.fires_iff_of_pending {t0 : Nat} (hstable : (s.sw i).stable ≠ s.inSwRaw i)
    (hlast : (s.sw i).lastRaw = s.inSwRaw i)
    (hchange : (s.sw i).lastChange = t0 % 2 ^ s.cfg.msBits)
    (hnow : now % 2 ^ s.cfg.msBits = s.inNowMs) (hle : t0 ≤ now)
    (hlt : now - t0 < 2 ^ s.cfg.msBits) :
    s.fires i = true ↔ t0 + s.cfg.debounceMs ≤ now := by
  have hkept : (s.checked i).lastChange = t0 % 2 ^ s.cfg.msBits := by
    rw [← hchange]; exact if_pos hlast.symm
  rw [State.fires_iff, hkept, ← hnow, elapsedMs_mod hle hlt, and_iff_left hstable.symm]
  omega

/-- The shape after a poll of the switch, in the terms of `Watched`. -/
theorem exec_swchk_shape_of_fires (hi : i = .waveformShape) (hfires : s.fires i = true)
    (h : exec (.swchk i) s = .next t) :
    t.triangleSelected = shapeOnAccept s.cfg (s.inSwRaw i) s.triangleSelected := by
  subst hi
  rw [exec_swchk1_shape h, if_pos hfires]

/-- R69, one poll of the switch: it starts the timer, or finds it running, or accepts the level, or
finds it accepted. -/
theorem Watched.of_check (hs : Watched i v shape s V seen) (hlegal : s.cfg.legal = true)
    (hraw : s.inSwRaw i = v) (hnow : now % 2 ^ s.cfg.msBits = s.inNowMs)
    (hadmits : V.admits s.cfg now i = true) (h : exec (.swchk i) s = .next t) :
    Watched i v shape t (V.see now i) (seen ++ [now]) := by
  subst hraw
  have hc := exec_keeps_cfg _ h
  have hsw := exec_swchk_sw h
  have hkept (hf : s.fires i = false) := exec_swchk_keeps_shape (.inr (.inl hf)) h
  have hlastRaw : (t.sw i).lastRaw = s.inSwRaw i := hsw ▸ rfl
  obtain ⟨hmono, hgap⟩ := ClockView.admits_iff.mp hadmits
  cases hs with
  | unseen hstable hlast hold =>
    have hf := s.not_fires_of_fresh hlegal hlast.symm
    rw [s.checked_of_fresh hlegal hlast.symm] at hsw
    have hpos := (Config.legal_debounce hlegal).1
    exact .pending now now now [] (hsw ▸ hstable) hlastRaw (by rw [hsw, hc, hnow])
      (ClockView.now_see ..) le_rfl (ClockView.last_see_self ..) (by rw [hc]; omega) nofun
      fun hi => (hkept hf).trans (hold hi)
  | pending t0 prev latest later hstable hlast hchange hlatest hle hprev hlt hearly hold =>
    have hafter : t0 ≤ now := hle.trans (hmono latest hlatest)
    have hwindow := debounce_add_half_lt hlegal
    have hgap' := hgap prev hprev
    have hfires := s.fires_iff_of_pending hstable hlast hchange hnow hafter (by omega)
    by_cases hend : t0 + s.cfg.debounceMs ≤ now
    · have hf := hfires.mpr hend
      have hnew : (t.sw i).stable = s.inSwRaw i := by rw [hsw, State.checked, if_pos hf]
      exact .accepted t0 (later ++ [now]) hnew hlastRaw ⟨now, by simp, hc ▸ hend⟩
        fun hi => by rw [exec_swchk_shape_of_fires hi hf h, hold hi, hc]
    · have hf : s.fires i = false := by rwa [Bool.eq_false_iff, Ne, hfires]
      have hstable' : (t.sw i).stable = (s.sw i).stable := by simp [hsw, State.checked, hf]
      have hchange' : (t.sw i).lastChange = (s.sw i).lastChange := by
        simp [hsw, State.checked, hlast]
      have hearly' : ∀ n ∈ later ++ [now], n < t0 + s.cfg.debounceMs := by
        simpa [or_imp, forall_and] using ⟨hearly, not_le.mp hend⟩
      rw [← hc] at hchange hearly' hend
      exact .pending t0 now now (later ++ [now]) (hstable' ▸ hstable) hlastRaw
        (hchange'.trans hchange) (ClockView.now_see ..) hafter (ClockView.last_see_self ..)
        (not_le.mp hend) hearly' fun hi => (hkept hf).trans (hold hi)
  | accepted t0 later hstable hlast hdue hnew =>
    have hf : s.fires i = false := by
      rw [Bool.eq_false_iff, Ne, State.fires_iff]
      exact fun hfires => hfires.2 hstable.symm
    have hstable' : (t.sw i).stable = (s.sw i).stable := by simp [hsw, State.checked, hf]
    obtain ⟨n, hmem, hn⟩ := hdue
    rw [← hc] at hn hnew
    exact .accepted t0 (later ++ [now]) (hstable'.trans hstable) hlastRaw
      ⟨n, List.mem_append_left _ hmem, hn⟩ fun hi => (hkept hf).trans (hnew hi)

/-- The level is watched through any stream that meets R40's premise and shows it at every poll. -/
theorem runSteps_watched (rest : List Arrival) (actions : List Arrival) :
    ∀ {s V seen times}, s.cfg.legal = true → Watched i v shape s V seen →
      s.arrivals = actions ++ rest → .reset ∉ actions →
      clockObeys s.cfg V (s.inputEvents actions) times = true →
      (∀ x, .sampled x ∈ s.inputEvents actions → x.switch = i → x.raw = v) →
      ∃ t W, runSteps actions.length s = .next t ∧ t.arrivals = rest ∧ t.cfg = s.cfg ∧
        Watched i v shape t W (seen ++ checkTimes i (s.inputEvents actions) times) := by
  induction actions with
  | nil =>
    intro s V seen times _ hs ha _ _ _
    exact ⟨s, V, rfl, ha, rfl, by simpa [State.inputEvents, checkTimes] using hs⟩
  | cons a actions ih =>
    intro s V seen times hlegal hs ha hreset hclock hlevel
    obtain ⟨hne, hreset⟩ := List.ne_and_not_mem_of_not_mem_cons hreset
    obtain ⟨u, hu⟩ := step_next s
    have hc := step_keeps_cfg hu
    have harr := step_arrivals ha hu
    rw [List.length_cons, runSteps_succ hu, ← hc]
    rw [← hc] at hlegal hclock
    cases step_actionCase ha hne.symm hu with
    | quiet hev hsw hshape =>
      rw [hev] at hclock hlevel ⊢
      exact ih hlegal (hs.of_quiet hc hsw hshape) harr hreset hclock hlevel
    | check k q hev h =>
      rw [hev] at hclock hlevel ⊢
      obtain ⟨now, later, rfl, hnow, hadmits, hclock⟩ := clockObeys_sampled hclock
      rw [hc] at hnow hadmits
      have hsched : Watched i v shape (s.sched (actions ++ rest) q) V seen :=
        hs.of_quiet rfl rfl rfl
      have htail x (hx : .sampled x ∈ u.inputEvents actions) := hlevel x (List.mem_cons_of_mem _ hx)
      by_cases hk : k = i
      · subst hk
        have hraw : s.inSwRaw k = v := hlevel (s.sampling k) List.mem_cons_self rfl
        have hs' := hsched.of_check (hc ▸ hlegal) hraw hnow hadmits h
        rw [checkTimes_sampled_self (s.sampling_switch k), List.append_cons]
        exact ih hlegal hs' harr hreset hclock htail
      · have hs' := hsched.of_other hk hadmits h
        rw [checkTimes_sampled_other hk]
        exact ih hlegal hs' harr hreset hclock htail

/-- Settles O42: the level is watched from the start of the stream, where no poll has come. -/
theorem acceptanceDelay : Obligations.AcceptanceDelay := by
  intro s i v actions rest times hlegal hstable hlast ha hreset hclock hlevel on bound
  obtain ⟨t, W, hrun, harr, hc, hs⟩ :=
    runSteps_watched rest actions hlegal (.unseen hstable hlast fun _ => rfl) ha hreset hclock
      hlevel
  refine ⟨t, hrun, harr, ?_⟩
  intro t0 later htimes due
  rw [htimes, List.nil_append] at hs
  cases hs with
  | pending _ _ _ _ hstable hlast _ _ _ _ _ hearly hshape =>
    have hnot : ¬due := fun ⟨now, hmem, hnow⟩ => absurd hnow (not_le.mpr (hc ▸ hearly now hmem))
    exact ⟨hlast, iff_of_false hstable hnot, fun _ hdue => absurd hdue hnot, fun hi _ => hshape hi⟩
  | accepted _ _ hstable hlast hdue hshape =>
    rw [hc] at hdue hshape
    refine ⟨hlast, iff_of_true hstable hdue, ?_, ?_⟩
    · rintro rfl - hbound
      exact (hshape rfl).trans (if_pos hbound)
    · rintro rfl hcase
      have hbound : bound = false := hcase.resolve_left (not_not_intro hdue)
      exact (hshape rfl).trans (if_neg (Bool.eq_false_iff.mp hbound))

end Sys2Proof.Machine

/-! PROOFS. The range selector: the events and the range in force (R71, R76), the lockout of the manual
switch (R77), and automatic selection (R73, R75). -/

namespace Sys2Proof.Machine

variable {s t : State}

/-! ### the events and the outputs they announce (R12, R71, R76) -/

/-- Settles O22: every operation appends an `Emission`, which keeps the agreement, and the reset action
empties the sequence together with the outputs. -/
theorem stepKeepsEventsInAgreement : Obligations.StepKeepsEventsInAgreement :=
  fun _ _ hs h => step_keeps
    (outside := fun _ rest q p hs => hs.outside rest q p)
    (reset := fun u rest p _ => (reset_eventsAgree u.cfg).outside rest .swchk0 p)
    (operation := fun _ _ _ hs h => exec_keeps_eventsAgree hs h) hs h

/-- Settles O45: it is what an `Emission` says of the range. -/
theorem oneNotificationPerRangeChange : Obligations.OneNotificationPerRangeChange := by
  intro i s t h
  obtain ⟨new, hemit⟩ := exec_emits h
  exact ⟨new, hemit.events, hemit.notified⟩

/-! ### the lockout (R72, R77) -/

/-- Settles O43: a request of switch 0 is dropped while externally clocked. -/
theorem rangeLockout : Obligations.RangeLockout := by
  intro s hactive hperiod
  have hext : s.ext = true := State.ext_iff.mpr ⟨hactive, hperiod⟩
  obtain ⟨t, h⟩ := exec_next (.swchk .rangeOverride) s
  exact ⟨t, h, (exec_swchk_range h).2 (.inr (.inr (.inr hext)))⟩

/-! ### the range `RAUTO` selects (R73, R75) -/

theorem State.autoRange_of_slow (he : s.ext = true) (hcp : s.cfg.crossover < s.inClkPeriod)
    (hr : s.highRange = true) : s.autoRange = some false := by
  simp [State.autoRange, he, hcp, hr]

theorem State.autoRange_of_fast (he : s.ext = true) (hcp : s.inClkPeriod < s.cfg.crossover)
    (hr : s.highRange = false) : s.autoRange = some true := by
  simp [State.autoRange, he, hcp, hr]

/-- R73: the range already suits the clock, or the clock is at the crossover itself. -/
theorem State.autoRange_of_suited (he : s.ext = true)
    (hslow : ¬(s.cfg.crossover < s.inClkPeriod ∧ s.highRange = true))
    (hfast : ¬(s.inClkPeriod < s.cfg.crossover ∧ s.highRange = false)) : s.autoRange = none := by
  rw [State.autoRange, if_pos he, if_neg hslow, if_neg hfast]

/-- R75: the clock has gone away since the last `RAUTO`. -/
theorem State.autoRange_of_clock_gone (he : s.ext = false) (hprev : s.rsPrevClocked = true) :
    s.autoRange = some (s.swOn .rangeOverride) := by
  simp [State.autoRange, he, hprev]

theorem State.autoRange_of_unclocked (he : s.ext = false) (hprev : s.rsPrevClocked = false) :
    s.autoRange = none := by
  simp [State.autoRange, he, hprev]

/-! ### what `RAUTO` leaves -/

theorem exec_rauto_prevClocked (h : exec .rauto s = .next t) : t.rsPrevClocked = s.ext := by
  rw [exec, execRauto_eq] at h; cases h; rfl

theorem exec_rauto_range (h : exec .rauto s = .next t) :
    t.highRange = s.autoRange.getD s.highRange := by
  rw [exec, execRauto_eq] at h; cases h; rfl

theorem exec_rauto_range_of_some {b : Bool} (h : exec .rauto s = .next t)
    (hsel : s.autoRange = some b) : t.highRange = b := by
  rw [exec_rauto_range h, hsel, Option.getD_some]

theorem exec_rauto_range_of_none (h : exec .rauto s = .next t) (hsel : s.autoRange = none) :
    t.highRange = s.highRange := by
  rw [exec_rauto_range h, hsel, Option.getD_none]

/-- R71: the notification depends on the range `RAUTO` leaves, not on why it was selected. -/
theorem exec_rauto_events (h : exec .rauto s = .next t) :
    t.events =
      s.events ++ if t.highRange = s.highRange then [] else [.rangeNotify t.highRange] := by
  rw [exec, execRauto_eq] at h
  cases h
  cases s.autoRange with
  | none => simp
  | some b => simp [eq_comm]

/-- Settles O44: each clause on the range is the one case of `State.autoRange` that its premises
select. -/
theorem rautoSelectsTheRange : Obligations.RautoSelectsTheRange := by
  refine ⟨decode_word .rauto, fun s => ?_⟩
  intro e slow fast
  obtain ⟨t, h⟩ := exec_next .rauto s
  have hclocked : e = s.ext := rfl
  rw [hclocked]
  refine ⟨t, h, exec_rauto_prevClocked h, ?_, ?_, ?_, ?_, ?_, exec_rauto_events h,
    exec_rauto_frame h⟩
  · exact fun he ⟨hcp, hr⟩ => exec_rauto_range_of_some h (State.autoRange_of_slow he hcp hr)
  · exact fun he ⟨hcp, hr⟩ => exec_rauto_range_of_some h (State.autoRange_of_fast he hcp hr)
  · exact fun he hslow hfast =>
      exec_rauto_range_of_none h (State.autoRange_of_suited he hslow hfast)
  · exact fun he hprev => exec_rauto_range_of_some h (State.autoRange_of_clock_gone he hprev)
  · exact fun he hprev => exec_rauto_range_of_none h (State.autoRange_of_unclocked he hprev)

end Sys2Proof.Machine

/-! PROOFS. The period calculator: the overflow-safe multiply-divide (R79, R92) and the increments
it serves (R88), knob conditioning (R80, R82), the clocked period (R86, R87), and the operations
`PCALC` (R83, R89) and `COMMIT` (R90). -/

namespace Sys2Proof.Machine

variable {c : Config} {s : State} {a b d : Nat}

/-! ### the overflow-safe multiply-divide (R79, R92) -/

theorem safeMuldiv_zero (c : Config) (a d : Nat) : safeMuldiv c a 0 d = 0 := if_pos rfl

/-- R79: the floor-division test is the test on the exact product. -/
theorem maxW_div_lt_iff (hb : b ≠ 0) : c.maxW / b < a ↔ c.maxW < a * b :=
  Nat.div_lt_iff_lt_mul (Nat.pos_of_ne_zero hb)

theorem safeMuldiv_of_overflow (h : c.maxW < a * b) :
    safeMuldiv c a b d = a / d * b % 2 ^ c.workBits := by
  have hb : b ≠ 0 := by rintro rfl; simp at h
  rw [safeMuldiv, if_neg hb, if_pos ((maxW_div_lt_iff hb).mpr h)]

theorem safeMuldiv_of_fits (h : a * b ≤ c.maxW) : safeMuldiv c a b d = a * b / d := by
  by_cases hb : b = 0
  · simp [hb, safeMuldiv_zero]
  · rw [safeMuldiv, if_neg hb, if_neg (mt (maxW_div_lt_iff hb).mp h.not_gt)]

/-- Settles O46, branch by branch. -/
theorem safeMuldivBranches : Obligations.SafeMuldivBranches := by
  intro c a b d _
  refine ⟨?guard, fun _ h => safeMuldiv_of_overflow h, fun _ h => safeMuldiv_of_fits h⟩
  rintro rfl
  exact safeMuldiv_zero c a d

/-- The divide-first branch where its product does not wrap (R7 item 10). -/
theorem safeMuldiv_of_overflow_no_wrap (h : c.maxW < a * b) (hwrap : a / d * b ≤ c.maxW) :
    safeMuldiv c a b d = a / d * b := by
  rw [safeMuldiv_of_overflow h, Nat.mod_eq_of_lt (hwrap.trans_lt c.maxW_lt)]

/-- R92: the exact quotient is the divide-first product and the share of the remainder of `a`. -/
theorem mul_div_eq_divideFirst_add (hd : 1 ≤ d) (a b : Nat) :
    a * b / d = a / d * b + a % d * b / d := by
  calc a * b / d = (d * (a / d) + a % d) * b / d := by rw [Nat.div_add_mod]
    _ = (d * (a / d * b) + a % d * b) / d := by rw [Nat.add_mul, Nat.mul_assoc]
    _ = a / d * b + a % d * b / d := Nat.mul_add_div hd ..

/-- R92: neither branch exceeds the exact floor. -/
theorem safeMuldiv_le (hd : 1 ≤ d) (hwrap : a / d * b ≤ c.maxW) :
    safeMuldiv c a b d ≤ a * b / d := by
  obtain h | h := le_or_gt (a * b) c.maxW
  · exact (safeMuldiv_of_fits h).le
  · rw [safeMuldiv_of_overflow_no_wrap h hwrap, mul_div_eq_divideFirst_add hd]
    exact Nat.le_add_right ..

/-- Settles O47: the error is the share of the remainder, and a remainder is at most `d - 1`. -/
theorem safeMuldivError : Obligations.SafeMuldivError := by
  intro c a b d hd hwrap
  refine ⟨safeMuldiv_le hd hwrap, safeMuldiv_of_fits, fun h => ⟨?error, ?bound, ?small⟩⟩
  case error =>
    rw [safeMuldiv_of_overflow_no_wrap h hwrap, mul_div_eq_divideFirst_add hd,
      Nat.add_sub_cancel_left]
  case bound =>
    have hrem : a % d ≤ d - 1 := Nat.le_sub_one_of_lt (Nat.mod_lt a hd)
    exact Nat.div_le_div_right (Nat.mul_le_mul_right b hrem)
  case small =>
    have hb : 0 < b := Nat.pos_of_ne_zero (by rintro rfl; simp at h)
    rw [Nat.div_lt_iff_lt_mul hd, Nat.mul_comm b d]
    exact Nat.mul_lt_mul_of_pos_right (Nat.sub_one_lt_of_lt hd) hb

/-! ### the increments (R88) -/

/-- R7 item 10 covers every legal period and duty: the divide-first product grows with both. -/
theorem divideFirst_le_maxW (hc : c.legal = true) {per dv : Nat} (hper : per ≤ c.lowSlowest)
    (hdv : dv ≤ c.dutyMax) : per / c.adcMax * dv ≤ c.maxW :=
  (Nat.mul_le_mul (Nat.div_le_div_right hper) hdv).trans (Config.legal_divideFirst hc)

/-- R88: the rising half is no longer than the whole period. -/
theorem dutyPeriod_le (hc : c.legal = true) {per dv : Nat} (hper : per ≤ c.lowSlowest)
    (hdv : dv ≤ c.dutyMax) : safeMuldiv c per dv c.adcMax ≤ per := by
  have hadc : 1 ≤ c.adcMax := le_trans (by decide) (Config.legal_adcMax hc)
  obtain ⟨-, -, -, hmax⟩ := Config.legal_duty hc
  calc safeMuldiv c per dv c.adcMax
      ≤ per * dv / c.adcMax := safeMuldiv_le hadc (divideFirst_le_maxW hc hper hdv)
    _ ≤ per * c.adcMax / c.adcMax :=
        Nat.div_le_div_right (Nat.mul_le_mul_left per (hdv.trans hmax.le))
    _ = per := Nat.mul_div_cancel per hadc

/-- Settles O48; the two increments are `halfIncrement` of the two halves by definition. -/
theorem incrementsStayWithinOneAndS : Obligations.IncrementsStayWithinOneAndS := by
  intro c per dv hc _ hper _ hdv dp
  exact ⟨dutyPeriod_le hc hper hdv, divideFirst_le_maxW hc hper hdv, rfl, rfl,
    incPair_inRange (Config.legal_scaled_pos hc) per dv⟩

/-! ### knob conditioning (R80, R82) -/

theorem snap_of_low {k : Nat} (h : k ≤ c.edgeDeadzone) : snap c k = 0 := if_pos h

/-- R7 item 7 keeps the two dead-zones apart. -/
theorem snap_of_high (hc : c.legal = true) {k : Nat} (h : c.adcMax - c.edgeDeadzone ≤ k) :
    snap c k = c.adcMax := by
  obtain ⟨-, hzone⟩ := Config.legal_knob hc
  rw [snap, if_neg (by omega), if_pos h]

theorem snap_of_between {k : Nat} (hlow : c.edgeDeadzone < k)
    (hhigh : k < c.adcMax - c.edgeDeadzone) : snap c k = k := by
  rw [snap, if_neg hlow.not_ge, if_neg hhigh.not_ge]

/-- R80: a conditioned value is an extreme, or a reading outside both dead-zones. -/
theorem snap_cases (c : Config) (k : Nat) :
    snap c k = 0 ∨ snap c k = c.adcMax ∨
      (snap c k = k ∧ c.edgeDeadzone < k ∧ k < c.adcMax - c.edgeDeadzone) := by
  unfold snap; split_ifs <;> omega

/-- R80: the dead-zone keeps the order of readings. -/
theorem snap_mono (hc : c.legal = true) {j k : Nat} (hjk : j ≤ k) (hk : k ≤ c.adcMax) :
    snap c j ≤ snap c k := by
  obtain hlow | hlow := le_or_gt j c.edgeDeadzone
  · exact (snap_of_low hlow).trans_le (Nat.zero_le _)
  · obtain hhigh | hhigh := le_or_gt (c.adcMax - c.edgeDeadzone) k
    · exact (snap_le (hjk.trans hk)).trans_eq (snap_of_high hc hhigh).symm
    · rw [snap_of_between hlow (hjk.trans_lt hhigh), snap_of_between (hlow.trans_le hjk) hhigh]
      exact hjk

/-- Settles O49. -/
theorem snapIsTheDeadZone : Obligations.SnapIsTheDeadZone :=
  fun _ k hc hk => ⟨snap_of_low, snap_of_high hc, snap_of_between, snap_le hk, snap_snap hc k,
    fun _ hjk => snap_mono hc hjk hk⟩

/-- R81: a value equal to the last one, or further from it than the hysteresis, is accepted. -/
theorem acceptKnob_of_eq_or_far (force : Bool) {k last : Nat}
    (h : k = last ∨ c.knobHyst < absdiff k last) : acceptKnob c force k last = k := by
  obtain rfl | hfar := h
  · exact ite_self ..
  · exact if_pos (.inr hfar)

theorem absdiff_of_le {k l : Nat} (h : k ≤ l) : absdiff k l = l - k := if_pos h

theorem absdiff_of_ge {k l : Nat} (h : l ≤ k) : absdiff k l = k - l := by
  unfold absdiff; split <;> omega

/-- R82 at the lower end: another conditioned value is further away than `EDGE_DEADZONE`, and that
is at least `KNOB_HYST`. -/
theorem acceptKnob_zero_snap (hc : c.legal = true) (force : Bool) (k : Nat) :
    acceptKnob c force 0 (snap c k) = 0 := by
  apply acceptKnob_of_eq_or_far
  obtain ⟨hhyst, hzone⟩ := Config.legal_knob hc
  rw [absdiff_of_le (Nat.zero_le _)]
  obtain hk | hk | ⟨hk, hlow, -⟩ := snap_cases c k <;> omega

/-- R82 at the upper end. -/
theorem acceptKnob_adcMax_snap (hc : c.legal = true) (force : Bool) (k : Nat) :
    acceptKnob c force c.adcMax (snap c k) = c.adcMax := by
  apply acceptKnob_of_eq_or_far
  obtain ⟨hhyst, hzone⟩ := Config.legal_knob hc
  obtain hk | hk | ⟨hk, -, hhigh⟩ := snap_cases c k <;> rw [absdiff_of_ge (by omega)] <;> omega

/-- Settles O50. -/
theorem extremesAreAlwaysAccepted : Obligations.ExtremesAreAlwaysAccepted :=
  fun _ force k hc _ => ⟨acceptKnob_zero_snap hc force k, acceptKnob_adcMax_snap hc force k⟩

/-! ### the coefficient index (R86) -/

/-- R7 item 4: a band of the knob, the readings of one table entry, is not empty. -/
theorem band_pos (hc : c.legal = true) : 0 < c.adcMax / c.tableSize := by
  obtain ⟨hN, htable⟩ := Config.legal_table hc
  exact Nat.div_pos htable (by unfold Config.tableSize; omega)

theorem coefIndex_le (c : Config) (f : Nat) : coefIndex c f ≤ c.tableSize - 1 := min_le_left ..

theorem coefIndex_mono (c : Config) {f g : Nat} (h : f ≤ g) : coefIndex c f ≤ coefIndex c g :=
  min_le_min_left _ (Nat.div_le_div_right h)

/-- R7 item 11: the lower half of the knob ends within the unity band. -/
theorem coefIndex_le_of_lower (hc : c.legal = true) {f : Nat} (h : f < (c.adcMax + 1) / 2) :
    coefIndex c f ≤ c.nRatio - 1 := by
  have hend : f < c.nRatio * (c.adcMax / c.tableSize) :=
    h.trans_le (Config.legal_unityBand hc).2
  exact (min_le_right ..).trans
    (Nat.le_sub_one_of_lt ((Nat.div_lt_iff_lt_mul (band_pos hc)).mpr hend))

/-- R7 item 11: the upper half of the knob begins within the unity band. -/
theorem le_coefIndex_of_upper (hc : c.legal = true) {f : Nat} (h : (c.adcMax + 1) / 2 ≤ f) :
    c.nRatio - 1 ≤ coefIndex c f := by
  have hbegin : (c.nRatio - 1) * (c.adcMax / c.tableSize) ≤ f :=
    (Config.legal_unityBand hc).1.trans h
  refine le_min ?_ ((Nat.le_div_iff_mul_le (band_pos hc)).mpr hbegin)
  unfold Config.tableSize
  omega

/-! ### the clocked period (R87) -/

/-- The period before R87's clamp, read off the table entry alone: multiply below the unity entry,
divide from it on. `clockedPeriod_eq` ties it to the knob. -/
def ratioPeriod (c : Config) (i cp : Nat) : Nat :=
  if i < c.nRatio - 1 then cp * coefRom c i else cp / coefRom c i

theorem coefRom_unity (c : Config) : coefRom c (c.nRatio - 1) = 1 := by
  rw [coefRom_of_le c le_rfl, Nat.sub_self]

theorem ratioPeriod_of_le (c : Config) {i : Nat} (h : i ≤ c.nRatio - 1) (cp : Nat) :
    ratioPeriod c i cp = cp * coefRom c i := by
  obtain hlt | rfl := h.lt_or_eq
  · exact if_pos hlt
  · rw [ratioPeriod, if_neg (lt_irrefl _), coefRom_unity, Nat.div_one, Nat.mul_one]

theorem ratioPeriod_of_ge (c : Config) {i : Nat} (h : c.nRatio - 1 ≤ i) (cp : Nat) :
    ratioPeriod c i cp = cp / coefRom c i := if_neg h.not_gt

/-- R87(a): the knob's lower half and the table's agree; where they overlap, at the unity entry,
multiplying and dividing are the same. -/
theorem clockedPeriod_eq (hc : c.legal = true) (f cp : Nat) :
    clockedPeriod c f cp =
      clamp (ratioPeriod c (coefIndex c f) cp) c.highFastest c.lowSlowest := by
  obtain hf | hf := lt_or_ge f ((c.adcMax + 1) / 2)
  · rw [ratioPeriod_of_le c (coefIndex_le_of_lower hc hf), clockedPeriod, if_pos hf]
  · rw [ratioPeriod_of_ge c (le_coefIndex_of_upper hc hf), clockedPeriod, if_neg hf.not_gt]

/-- Settles O53. -/
theorem theTwoReadingsOfLowerHalfAgree : Obligations.TheTwoReadingsOfLowerHalfAgree :=
  fun c f cp hc _ => ⟨coefIndex_le c f, coefIndex_le_of_lower hc, le_coefIndex_of_upper hc,
    clockedPeriod_eq hc f cp⟩

theorem coefRom_pos (c : Config) (i : Nat) : 0 < coefRom c i := Nat.succ_pos _

/-- The coefficients fall to 1 on the multiplying side and rise from 1 on the dividing side
(R49). -/
theorem ratioPeriod_antitone (hN : 1 ≤ c.nRatio) {i j : Nat} (hij : i ≤ j) (cp : Nat) :
    ratioPeriod c j cp ≤ ratioPeriod c i cp := by
  obtain ⟨-, -, -, -, hfalling, hrising⟩ := coefficientTableIsSymmetric c hN
  obtain hj | hj := le_total j (c.nRatio - 1)
  · rw [ratioPeriod_of_le c hj, ratioPeriod_of_le c (hij.trans hj)]
    exact Nat.mul_le_mul_left cp (hfalling i j hij hj)
  · rw [ratioPeriod_of_ge c hj]
    obtain hi | hi := le_total i (c.nRatio - 1)
    · rw [ratioPeriod_of_le c hi]
      exact (Nat.div_le_self ..).trans (Nat.le_mul_of_pos_right cp (coefRom_pos c i))
    · rw [ratioPeriod_of_ge c hi]
      exact Nat.div_le_div_left (hrising i j hi hij) (coefRom_pos c i)

/-- Settles O54: the index grows with the knob, the period falls with the index, and the clamp keeps
the order and the bounds. -/
theorem clockedPeriodFallsAlongTheKnob : Obligations.ClockedPeriodFallsAlongTheKnob := by
  intro c f g cp hc hfg _
  obtain ⟨-, hhigh, hmid, hlow, -⟩ := Config.legal_periods hc
  have hbounds : c.highFastest ≤ c.lowSlowest := hhigh.trans (hmid.trans hlow)
  have hperiod := ratioPeriod_antitone (Config.legal_table hc).1 (coefIndex_mono c hfg) cp
  rw [clockedPeriod_eq hc f, clockedPeriod_eq hc g]
  exact ⟨(clamp_mono hperiod).resolve_right hbounds.not_gt, le_clamp hbounds, clamp_le hbounds⟩

/-! ### `PCALC` (R83, R89) -/

/-- R83, as the rule lists it. -/
theorem State.changed_iff :
    s.changed = true ↔ s.pcForce = true ∨ s.acceptedFreq ≠ s.lastFreq ∨
      s.acceptedDuty ≠ s.lastDuty ∨ s.highRange ≠ s.lastRange ∨ s.ext ≠ s.lastClocked ∨
      (s.ext = true ∧ s.inClkPeriod ≠ s.lastClkper) := by
  simp [State.changed, or_assoc]

/-- What is known of the inputs when `PCALC` skips the recomputation (R83). -/
theorem State.unchanged_iff :
    s.changed = false ↔ s.pcForce = false ∧ s.acceptedFreq = s.lastFreq ∧
      s.acceptedDuty = s.lastDuty ∧ s.highRange = s.lastRange ∧ s.ext = s.lastClocked ∧
      (s.ext = true → s.inClkPeriod = s.lastClkper) := by
  rw [← Bool.not_eq_true, State.changed_iff]
  simp only [not_or, not_and, not_not, Bool.not_eq_true]

theorem exec_pcalc_of_changed (h : s.changed = true) :
    exec .pcalc s = .next (s.recompute s.acceptedFreq s.acceptedDuty s.ext s.inClkPeriod) := by
  rw [exec, execPcalc_eq, if_pos h]

theorem exec_pcalc_of_unchanged (h : s.changed = false) : exec .pcalc s = .next s := by
  rw [exec, execPcalc_eq, if_neg (Bool.eq_false_iff.mp h)]

/-- Settles O55: the condition written out is `State.changed`, the record written out is
`State.recompute`. -/
theorem pcalcRecomputesExactlyOnAChange : Obligations.PcalcRecomputesExactlyOnAChange := by
  refine ⟨decode_word .pcalc, fun s => ?_⟩
  intro c e f d changed per dv
  have hchanged : s.changed = true ↔ changed := State.changed_iff
  cases h : s.changed with
  | true =>
    exact ⟨_, exec_pcalc_of_changed h, fun hn => absurd (hchanged.mp h) hn, fun _ => rfl⟩
  | false =>
    have hn : ¬changed := fun hch => Bool.eq_false_iff.mp h (hchanged.mpr hch)
    exact ⟨s, exec_pcalc_of_unchanged h, fun _ => rfl, fun hch => absurd hch hn⟩

/-- R84: free-running, the clock period plays no part. -/
theorem targetPeriod_of_not_ext (c : Config) (high : Bool) (f cp : Nat) :
    targetPeriod c false high f cp = periodRom c high f := rfl

/-- With no change the period in force is still that of the sampled inputs; the one input that R83
does not compare, the clock period while free-running, has no effect on it. -/
theorem ObservedAgree.period_of_unchanged (hs : ObservedAgree s) (h : s.changed = false) :
    s.period = targetPeriod s.cfg s.ext s.highRange s.acceptedFreq s.inClkPeriod := by
  obtain ⟨hforce, hf, -, hr, he, hcp⟩ := State.unchanged_iff.mp h
  rw [hs.period hforce, ← hf, ← hr, ← he]
  cases hext : s.ext with
  | true => rw [hcp hext]
  | false => rw [targetPeriod_of_not_ext, targetPeriod_of_not_ext]

/-- Settles O56, for a `PCALC` that recomputes and for one that does not. -/
theorem changeDetectionLosesNothing : Obligations.ChangeDetectionLosesNothing := by
  intro s hs
  cases h : s.changed with
  | true => exact ⟨_, exec_pcalc_of_changed h, rfl, rfl, rfl⟩
  | false =>
    obtain ⟨hforce, -, hd, -⟩ := State.unchanged_iff.mp h
    exact ⟨s, exec_pcalc_of_unchanged h, hs.period_of_unchanged h, hd ▸ hs.duty hforce,
      hs.staged hforce⟩

/-! ### the ends of the frequency knob (R82, R84) -/

theorem ObservedAgree.acceptedFreq_of_low (hs : ObservedAgree s) (hc : s.cfg.legal = true)
    (h : s.inKnobFreq ≤ s.cfg.edgeDeadzone) : s.acceptedFreq = 0 := by
  rw [State.acceptedFreq, snap_of_low h, ← hs.snapped, acceptKnob_zero_snap hc]

theorem ObservedAgree.acceptedFreq_of_high (hs : ObservedAgree s) (hc : s.cfg.legal = true)
    (h : s.cfg.adcMax - s.cfg.edgeDeadzone ≤ s.inKnobFreq) : s.acceptedFreq = s.cfg.adcMax := by
  rw [State.acceptedFreq, snap_of_high hc h, ← hs.snapped, acceptKnob_adcMax_snap hc]

/-- Settles O57: the period is the ROM read at the accepted knob, whether `PCALC` recomputed or not,
and an extreme is accepted over any conditioned value. -/
theorem knobEndsReachThePeriodEnds : Obligations.KnobEndsReachThePeriodEnds := by
  intro s hc hs hext
  obtain ⟨t, h, hperiod, -, -⟩ := changeDetectionLosesNothing s hs
  rw [hext, targetPeriod_of_not_ext] at hperiod
  refine ⟨t, h, fun hlow => ?_, fun hhigh => ?_⟩
  · rw [hperiod, hs.acceptedFreq_of_low hc hlow, periodRom_zero hc]
    rfl
  · rw [hperiod, hs.acceptedFreq_of_high hc hhigh, periodRom_adcMax hc]
    rfl

/-! ### `COMMIT` (R90) -/

theorem exec_commit_of_staged (h : s.stageValid = true) : exec .commit s = .next s.publish := by
  rw [exec, execCommit, if_pos h]

theorem exec_commit_of_not_staged (h : s.stageValid = false) : exec .commit s = .next s := by
  rw [exec, execCommit, if_neg (Bool.eq_false_iff.mp h)]

/-- Settles O58; the record written out is `State.publish`. -/
theorem commitPublishesThePairAsAWhole : Obligations.CommitPublishesThePairAsAWhole :=
  ⟨decode_word .commit, fun _ => ⟨exec_commit_of_staged, exec_commit_of_not_staged⟩⟩

end Sys2Proof.Machine

/-! PROOFS. The waveform engine: `NOP` (R102), the triangle sample (R97), `TICK` (R96), `RSTPH`
(R100), the pulse writes (R98), and the cycle that ticks with a constant pair make (R103). -/

namespace Sys2Proof.Machine

variable {c : Config} {s t : State} {i : Instr}

/-! ### the phase is never at the bound it moves towards (R96) -/

/-- Settles O20: every operation keeps it and the reset action, which starts the rising half at the
bottom, establishes it. The invariant, which bounds the steps, is carried along. -/
theorem stepKeepsTurned : Obligations.StepKeepsTurned := by
  intro s t hs ht h
  have both : Invariant t ∧ Turned t :=
    step_keeps (P := fun u => Invariant u ∧ Turned u)
      (outside := fun _ rest q p ⟨hs, ht⟩ => ⟨hs.outside rest q p, ht.outside rest q p⟩)
      (reset := fun _ rest p ⟨hs, _⟩ =>
        ⟨(reset_invariant hs.cfg_legal).outside rest .swchk0 p,
          (reset_turned hs.cfg_legal).outside rest .swchk0 p⟩)
      (operation := fun _ _ _ ⟨hs, ht⟩ h =>
        ⟨exec_keeps_invariant hs h, exec_keeps_turned hs ht h⟩) ⟨hs, ht⟩ h
  exact both.2

/-! ### `NOP` (R102) -/

/-- Settles O27. -/
theorem nopChangesNothing : Obligations.NopChangesNothing :=
  ⟨decode_word .nop, fun _ => rfl⟩

/-! ### the triangle sample (R97) -/

theorem scaled_descaled (c : Config) : c.scaled / 2 ^ c.scaleShift = c.outRes :=
  Nat.mul_div_cancel _ (Nat.two_pow_pos _)

theorem descaled_le {p : Nat} (h : p ≤ c.scaled) : p / 2 ^ c.scaleShift ≤ c.outRes :=
  scaled_descaled c ▸ Nat.div_le_div_right h

/-- Neither bound of the clamp acts. -/
theorem triSample_of_le {p : Nat} (h : p ≤ c.scaled) : triSample c p = p / 2 ^ c.scaleShift := by
  have hcast : ((p : Int) / 2 ^ c.scaleShift).toNat = p / 2 ^ c.scaleShift := by
    exact_mod_cast Int.toNat_natCast (p / 2 ^ c.scaleShift)
  rw [triSample, hcast, clamp_of_le (descaled_le h)]

/-- Settles O31. -/
theorem triangleSampleIsTheDescaledPhase : Obligations.TriangleSampleIsTheDescaledPhase := by
  intro c p h
  refine ⟨triSample_of_le h, descaled_le h, ?_, ?_⟩
  · exact (triSample_of_le (Nat.zero_le _)).trans (Nat.zero_div _)
  · exact (triSample_of_le le_rfl).trans (scaled_descaled c)

/-! ### `TICK` (R96) -/

theorem exec_tick_phase (h : exec .tick s = .next t) : t.phase = s.advance.p := by
  rw [exec, execTick_eq] at h; cases h; rfl

theorem exec_tick_rising (h : exec .tick s = .next t) : t.rising = s.advance.rising := by
  rw [exec, execTick_eq] at h; cases h; rfl

theorem exec_tick_of_triangle (h : exec .tick s = .next t) (htri : s.triangleSelected = true) :
    t.sampleQ = triSample s.cfg s.advance.p ∧
    t.events = s.events ++ [.sampleWrite (triSample s.cfg s.advance.p)] := by
  rw [exec, execTick_eq] at h; cases h; simp [htri]

theorem exec_tick_of_turn (h : exec .tick s = .next t) (htri : s.triangleSelected = false)
    (hturn : s.advance.rising ≠ s.rising) :
    t.sampleQ = pulseLevel s.cfg s.advance.rising ∧
    t.events = s.events ++ [.sampleWrite (pulseLevel s.cfg s.advance.rising)] := by
  rw [exec, execTick_eq] at h; cases h; simp [htri, hturn]

theorem exec_tick_of_no_turn (h : exec .tick s = .next t) (htri : s.triangleSelected = false)
    (hturn : s.advance.rising = s.rising) : t.sampleQ = s.sampleQ ∧ t.events = s.events := by
  rw [exec, execTick_eq] at h; cases h; simp [htri, hturn]

/-- Settles O28: the two tests written out are `State.advance`, and each clause on the sample is one
case of the write. -/
theorem tickAdvancesAndReflects : Obligations.TickAdvancesAndReflects := by
  refine ⟨decode_word .tick, fun s => ?_⟩
  intro S p0 p1 r1 p2 r2 level
  have hwave : s.advance = { p := p2, rising := r2 } := by
    rw [State.advance_eq, reflectBottom_eq]; rfl
  have hphase : s.advance.p = p2 := congrArg Wave.p hwave
  have hrising : s.advance.rising = r2 := congrArg Wave.rising hwave
  obtain ⟨t, h⟩ := exec_next .tick s
  rw [← hphase, ← hrising]
  have hlevel : level = pulseLevel s.cfg s.advance.rising := by rw [hrising]; rfl
  rw [hlevel]
  exact ⟨t, h, exec_tick_phase h, exec_tick_rising h, exec_tick_of_triangle h,
    exec_tick_of_turn h, exec_tick_of_no_turn h, exec_tick_frame h⟩

/-- Settles O29: R7 item 2 leaves the signed register room for the phase before the reflections. -/
theorem tickNeverWrapsThePhaseRegister : Obligations.TickNeverWrapsThePhaseRegister := by
  intro s hs p
  obtain ⟨hlow, hhigh⟩ : -(s.cfg.scaled : Int) ≤ p ∧ p ≤ 2 * s.cfg.scaled := hs.stepped_bounds
  have hroom := Config.legal_phase hs.cfg_legal
  have hS := Config.legal_scaled_pos hs.cfg_legal
  have hwidth : 0 < s.cfg.phaseBits := by
    refine Nat.pos_of_ne_zero fun hzero => ?_
    rw [hzero] at hroom
    omega
  have hroom' : (2 * s.cfg.scaled : Int) < 2 ^ (s.cfg.phaseBits - 1) := by exact_mod_cast hroom
  exact ⟨hhigh, hlow, BitVec.toInt_ofInt_eq_self hwidth (by omega) (by omega)⟩

/-- R96: only a full step from the top brings the phase to `2 * S`. -/
theorem Invariant.double_le_stepped_iff (hs : Invariant s) :
    2 * (s.cfg.scaled : Int) ≤ s.stepped ↔
      s.rising = true ∧ s.phase = s.cfg.scaled ∧ s.increment.rise = s.cfg.scaled := by
  obtain ⟨-, hrise, hfall, -⟩ := hs.increment_ok
  have hhigh := hs.phase_le
  have hS := Config.legal_scaled_pos hs.cfg_legal
  cases hr : s.rising with
  | true => rw [State.stepped_of_rising hr]; simp only [true_and]; omega
  | false =>
    rw [State.stepped_of_falling hr]
    simp only [Bool.false_eq_true, false_and, iff_false]
    omega

/-- R96 corner case (c): the first test folds `2 * S` to 0, on which the second one fires. -/
theorem State.advance_of_double (h : s.stepped = 2 * s.cfg.scaled) :
    s.advance = { p := 0, rising := true } := by
  have htop : (s.cfg.scaled : Int) ≤ s.stepped := by omega
  have hfold : (s.cfg.scaled : Int) - (s.stepped - s.cfg.scaled) = 0 := by omega
  rw [State.advance_eq, if_pos htop, hfold, reflectBottom_eq]
  rfl

/-- Settles O30: both tests fire exactly from `2 * S`. -/
theorem bothReflectionsOnlyAtFullStep : Obligations.BothReflectionsOnlyAtFullStep := by
  intro s hs S p
  have hiff : 2 * S ≤ p ↔ s.rising = true ∧ s.phase = S ∧ s.increment.rise = s.cfg.scaled :=
    hs.double_le_stepped_iff
  have hboth : S ≤ p ∧ S - (p - S) ≤ 0 ↔ 2 * S ≤ p := by omega
  refine ⟨hboth.trans hiff, fun hr hp hfull => ?_⟩
  have hadvance : s.advance = { p := 0, rising := true } :=
    State.advance_of_double (by rw [State.stepped_of_rising hr, hp, hfull]; omega)
  obtain ⟨t, h⟩ := exec_next .tick s
  refine ⟨t, h, ?_, ?_, fun htri => exec_tick_of_no_turn h htri ?_⟩
  · rw [exec_tick_phase h, hadvance]
  · rw [exec_tick_rising h, hadvance]
  · rw [hadvance, hr]

/-! ### `RSTPH` (R100) -/

theorem exec_rstph_wave (h : exec .rstph s = .next t) : t.phase = 0 ∧ t.rising = true := by
  rw [exec, execRstph_eq] at h; cases h; exact ⟨rfl, rfl⟩

theorem exec_rstph_of_turn (h : exec .rstph s = .next t) (htri : s.triangleSelected = false)
    (hr : s.rising = false) :
    t.sampleQ = s.cfg.outRes ∧ t.events = s.events ++ [.sampleWrite s.cfg.outRes] := by
  rw [exec, execRstph_eq] at h; cases h; simp [htri, hr]

theorem exec_rstph_of_no_write (h : exec .rstph s = .next t)
    (hq : s.triangleSelected = true ∨ s.rising = true) :
    t.sampleQ = s.sampleQ ∧ t.events = s.events := by
  rw [exec, execRstph_eq] at h
  cases h
  obtain htri | hr := hq
  · simp [htri]
  · simp [hr]

/-- Settles O33. -/
theorem rstphRestartsTheRisingHalf : Obligations.RstphRestartsTheRisingHalf := by
  refine ⟨decode_word .rstph, fun s => ?_⟩
  obtain ⟨t, h⟩ := exec_next .rstph s
  obtain ⟨hphase, hrising⟩ := exec_rstph_wave h
  exact ⟨t, h, hphase, hrising, exec_rstph_of_turn h, exec_rstph_of_no_write h,
    exec_rstph_frame h⟩

/-- At the start of the rising half `RSTPH` finds what it would write. -/
theorem exec_rstph_of_restarted (hp : s.phase = 0) (hr : s.rising = true) :
    exec .rstph s = .next s := by
  obtain ⟨t, h⟩ := exec_next .rstph s
  obtain ⟨hphase, hrising⟩ := exec_rstph_wave h
  obtain ⟨hsample, hevents⟩ := exec_rstph_of_no_write h (.inr hr)
  have hsame := exec_rstph_frame h
  rw [hphase, hrising, hsample, hevents, ← hp, ← hr] at hsame
  rw [h, hsame]

/-- Settles O34. -/
theorem rstphIsIdempotent : Obligations.RstphIsIdempotent := by
  intro s t h
  obtain ⟨hphase, hrising⟩ := exec_rstph_wave h
  exact exec_rstph_of_restarted hphase hrising

/-! ### the pulse writes (R98) -/

/-- What an operation in pulse mode makes of the direction, the samples and the latch: nothing, or a
turn with one write of the new level. -/
inductive PulseWrite (s t : State) (new : List Event) : Prop where
  /-- The direction stays. -/
  | quiet (hr : t.rising = s.rising) (hw : samples new = []) (hq : t.sampleQ = s.sampleQ)
  /-- The direction turns. -/
  | turn (hr : t.rising ≠ s.rising) (hw : samples new = [pulseLevel s.cfg t.rising])
      (hq : t.sampleQ = pulseLevel s.cfg t.rising)

theorem exec_tick_pulse (htri : s.triangleSelected = false) (h : exec .tick s = .next t) :
    ∃ new, t.events = s.events ++ new ∧ PulseWrite s t new := by
  have hrising := exec_tick_rising h
  by_cases hturn : s.advance.rising = s.rising
  · obtain ⟨hq, he⟩ := exec_tick_of_no_turn h htri hturn
    exact ⟨[], by simp [he], .quiet (hrising.trans hturn) rfl hq⟩
  · obtain ⟨hq, he⟩ := exec_tick_of_turn h htri hturn
    rw [← hrising] at hturn hq he
    exact ⟨_, he, .turn hturn rfl hq⟩

theorem exec_rstph_pulse (htri : s.triangleSelected = false) (h : exec .rstph s = .next t) :
    ∃ new, t.events = s.events ++ new ∧ PulseWrite s t new := by
  obtain ⟨-, hrising⟩ := exec_rstph_wave h
  cases hr : s.rising with
  | true =>
    obtain ⟨hq, he⟩ := exec_rstph_of_no_write h (.inr hr)
    exact ⟨[], by simp [he], .quiet (hrising.trans hr.symm) rfl hq⟩
  | false =>
    obtain ⟨hq, he⟩ := exec_rstph_of_turn h htri hr
    exact ⟨_, he, .turn (by simp [hrising, hr]) (by rw [hrising]; rfl) (by rw [hrising]; exact hq)⟩

/-- R99: only the tick context's operations write samples. -/
theorem exec_writes_no_sample (htick : i ≠ .tick) (hrstph : i ≠ .rstph) (h : exec i s = .next t) :
    ∃ new, t.events = s.events ++ new ∧ samples new = [] := by
  have silent (he : t.events = s.events) : ∃ new, t.events = s.events ++ new ∧ samples new = [] :=
    ⟨[], by simp [he], rfl⟩
  cases i with
  | nop => exact silent (by rw [exec_nop_frame h])
  | tick => exact absurd rfl htick
  | rstph => exact absurd rfl hrstph
  | swchk k =>
    cases k with
    | rangeOverride =>
      rw [exec, execSwchk_rangeOverride_eq] at h
      cases h
      exact ⟨_, rfl, by split <;> rfl⟩
    | waveformShape => exact silent (by rw [exec_swchk1_frame h])
  | rauto => exact ⟨_, exec_rauto_events h, by split <;> rfl⟩
  | pcalc => exact silent (by rw [exec_pcalc_frame h])
  | commit => exact silent (by rw [exec_commit_frame h])

theorem exec_pulse (htri : s.triangleSelected = false) (h : exec i s = .next t) :
    ∃ new, t.events = s.events ++ new ∧ PulseWrite s t new := by
  by_cases htick : i = .tick
  · exact exec_tick_pulse htri (htick ▸ h)
  by_cases hrstph : i = .rstph
  · exact exec_rstph_pulse htri (hrstph ▸ h)
  obtain ⟨new, he, hw⟩ := exec_writes_no_sample htick hrstph h
  obtain ⟨-, hr, hq⟩ := (exec_leavesUnwritten h).wave htick hrstph
  exact ⟨new, he, .quiet hr hw hq⟩

theorem PulseWrite.samples_eq {new : List Event} (hp : PulseWrite s t new) :
    samples new = if t.rising = s.rising then [] else [pulseLevel s.cfg t.rising] := by
  cases hp with
  | quiet hr hw _ => rw [hw, if_pos hr]
  | turn hr hw _ => rw [hw, if_neg hr]

/-- The latch follows the direction from the first turn on, whatever it held before. -/
theorem PulseWrite.follows_of_turn {new : List Event} (hp : PulseWrite s t new) (hc : t.cfg = s.cfg)
    (hturn : t.rising ≠ s.rising) : PulseFollows t := by
  cases hp with
  | quiet hr _ _ => exact absurd hr hturn
  | turn _ _ hq => rw [PulseFollows, hq, hc]

theorem PulseWrite.keeps_follows {new : List Event} (hp : PulseWrite s t new) (hc : t.cfg = s.cfg)
    (hs : PulseFollows s) : PulseFollows t := by
  by_cases hturn : t.rising = s.rising
  · cases hp with
    | quiet hr _ hq => rw [PulseFollows, hq, hr, hc]; exact hs
    | turn hr _ _ => exact absurd hturn hr
  · exact hp.follows_of_turn hc hturn

/-- Settles O32: what every operation writes in pulse mode is a `PulseWrite`, and the operations
other than `TICK` and `RSTPH` write no sample. -/
theorem pulseIsWrittenExactlyOnATurn : Obligations.PulseIsWrittenExactlyOnATurn := by
  refine ⟨fun i s t htri h => ?_, fun i s t htick hrstph h => ?_, fun c => rfl⟩
  · obtain ⟨new, he, hp⟩ := exec_pulse htri h
    have hc := exec_keeps_cfg i h
    exact ⟨⟨new, he, hp.samples_eq⟩, hp.follows_of_turn hc, hp.keeps_follows hc⟩
  · obtain ⟨new, he, hw⟩ := exec_writes_no_sample htick hrstph h
    obtain ⟨-, hr, hq⟩ := (exec_leavesUnwritten h).wave htick hrstph
    exact ⟨hr, hq, by rw [he, samples_append, hw, List.append_nil]⟩

/-! ### ticks with a constant pair (R103) -/

/-- One tick of R96 on a phase and a direction, with the pair given. -/
def Wave.tick (c : Config) (pair : Increments) (w : Wave) : Wave :=
  reflectBottom (reflectTop c
    { w with p := if w.rising then w.p + pair.rise else w.p - pair.fall })

/-- The phase and the direction of the state. -/
def State.wave (s : State) : Wave := { p := s.phase, rising := s.rising }

theorem State.wave_eq_iff {p : Int} {r : Bool} :
    s.wave = { p := p, rising := r } ↔ s.phase = p ∧ s.rising = r := by
  rw [State.wave, Wave.mk.injEq]

theorem State.tick_wave (s : State) : s.wave.tick s.cfg s.increment = s.advance := rfl

theorem exec_tick_wave (h : exec .tick s = .next t) :
    t.wave = s.wave.tick s.cfg s.increment := by
  rw [s.tick_wave]
  exact State.wave_eq_iff.2 ⟨exec_tick_phase h, exec_tick_rising h⟩

/-- A `TICK` of the tick context makes one tick of the wave with the committed pair, and keeps the
pair. -/
theorem step_tick_wave {rest : List Arrival} (ha : s.arrivals = .tick :: rest) :
    ∃ t, step s = .next t ∧ t.wave = s.wave.tick s.cfg s.increment ∧ t.arrivals = rest ∧
      t.cfg = s.cfg ∧ t.increment = s.increment := by
  obtain ⟨t, h⟩ := exec_next .tick { s with arrivals := rest }
  have hwave := exec_tick_wave h
  have hcfg := exec_keeps_cfg .tick h
  have hpair := (exec_leavesUnwritten h).increment nofun
  exact ⟨t, (step_tick ha).trans h, hwave, by rw [exec_tick_frame h], hcfg, hpair⟩

/-- As many steps as there are `TICK`s to come make that many ticks of the wave. -/
theorem runSteps_ticks (rest : List Arrival) (n : Nat) :
    ∀ s : State, s.arrivals = List.replicate n .tick ++ rest →
      ∃ t, runSteps n s = .next t ∧ t.wave = (Wave.tick s.cfg s.increment)^[n] s.wave ∧
        t.arrivals = rest := by
  induction n with
  | zero => exact fun s ha => ⟨s, rfl, rfl, ha⟩
  | succ n ih =>
    intro s ha
    obtain ⟨u, hstep, hwave, harr, hcfg, hpair⟩ := step_tick_wave ha
    obtain ⟨t, hrun, ht, hrest⟩ := ih u harr
    refine ⟨t, (runSteps_succ hstep n).trans hrun, ?_, hrest⟩
    rw [ht, hwave, hcfg, hpair, ← Function.iterate_succ_apply]

/-- The same for fewer steps than there are `TICK`s to come. -/
theorem runSteps_some_ticks {rest : List Arrival} {n j : Nat} (hj : j ≤ n)
    (ha : s.arrivals = List.replicate n .tick ++ rest) :
    ∃ t, runSteps j s = .next t ∧ t.wave = (Wave.tick s.cfg s.increment)^[j] s.wave := by
  rw [← Nat.add_sub_of_le hj, List.replicate_add, List.append_assoc] at ha
  obtain ⟨t, hrun, hwave, -⟩ := runSteps_ticks _ j s ha
  exact ⟨t, hrun, hwave⟩

/-! ### one tick of the wave, by where it ends (R96) -/

variable {pair : Increments}

section

variable {p : Int}

theorem tick_inside_rising (hlow : 0 < p + pair.rise) (hhigh : p + pair.rise < c.scaled) :
    Wave.tick c pair { p := p, rising := true } = { p := p + pair.rise, rising := true } := by
  rw [Wave.tick, reflectTop_eq, reflectBottom_eq]
  simp [hlow.not_ge, hhigh.not_ge]

theorem tick_over_top (htop : c.scaled ≤ p + pair.rise) (hfold : p + pair.rise < 2 * c.scaled) :
    Wave.tick c pair { p := p, rising := true } =
      { p := 2 * c.scaled - (p + pair.rise), rising := false } := by
  have hinside : ¬ (c.scaled : Int) - (p + pair.rise - c.scaled) ≤ 0 := by omega
  rw [Wave.tick, reflectTop_eq, reflectBottom_eq]
  simp only [if_true, if_pos htop, if_neg hinside, Wave.mk.injEq, and_true]
  omega

theorem tick_inside_falling (hlow : 0 < p - pair.fall) (hhigh : p - pair.fall < c.scaled) :
    Wave.tick c pair { p := p, rising := false } = { p := p - pair.fall, rising := false } := by
  rw [Wave.tick, reflectTop_eq, reflectBottom_eq]
  simp [hlow.not_ge, hhigh.not_ge]

theorem tick_under_bottom (hbottom : p - pair.fall ≤ 0) (hhigh : p - pair.fall < c.scaled) :
    Wave.tick c pair { p := p, rising := false } = { p := pair.fall - p, rising := true } := by
  rw [Wave.tick, reflectTop_eq, reflectBottom_eq]
  simp [hbottom, hhigh.not_ge]

end

/-! ### the ticks of one half: the steps that cover a distance, rounded up -/

theorem le_ceilDiv_mul {a : Nat} (ha : 0 < a) (d : Nat) : d ≤ d ⌈/⌉ a * a :=
  Nat.mul_comm a _ ▸ (ceilDiv_le_iff_le_mul ha).1 le_rfl

theorem mul_lt_of_lt_ceilDiv {a d j : Nat} (ha : 0 < a) (hj : j < d ⌈/⌉ a) : j * a < d := by
  rw [Nat.mul_comm]
  exact not_le.1 fun h => hj.not_ge ((ceilDiv_le_iff_le_mul ha).2 h)

theorem ceilDiv_pos {a d : Nat} (ha : 0 < a) (hd : 0 < d) : 0 < d ⌈/⌉ a :=
  Nat.pos_of_mul_pos_right (hd.trans_le (le_ceilDiv_mul ha d))

theorem ceilDiv_le_self {a : Nat} (ha : 0 < a) (d : Nat) : d ⌈/⌉ a ≤ d :=
  (ceilDiv_le_iff_le_mul ha).2 (Nat.le_mul_of_pos_left d ha)

/-- The steps overshoot the distance by less than one step. -/
theorem ceilDiv_mul_lt {a d : Nat} (ha : 0 < a) (hd : 0 < d) : d ⌈/⌉ a * a < d + a := by
  obtain ⟨k, hk⟩ := Nat.exists_eq_add_one.2 (ceilDiv_pos ha hd)
  have hlast : k * a < d := mul_lt_of_lt_ceilDiv ha (by omega)
  rw [hk, Nat.add_one_mul]
  omega

/-- The steps end at the distance itself exactly when the step divides it. -/
theorem ceilDiv_mul_eq_iff {a d : Nat} (ha : 0 < a) : d ⌈/⌉ a * a = d ↔ a ∣ d := by
  constructor
  · exact fun h => ⟨_, h.symm.trans (Nat.mul_comm ..)⟩
  · rintro ⟨k, rfl⟩
    have hk : a * k ⌈/⌉ a ≤ k := (ceilDiv_le_iff_le_mul ha).2 le_rfl
    exact le_antisymm ((Nat.mul_le_mul_right a hk).trans_eq (Nat.mul_comm k a))
      (le_ceilDiv_mul ha _)

/-- Before the top is reached each tick adds the rising step. -/
theorem iterate_tick_rising {p : Nat} (ha : 1 ≤ pair.rise) (j : Nat)
    (h : p + j * pair.rise < c.scaled) :
    (Wave.tick c pair)^[j] { p := p, rising := true } =
      { p := (p + j * pair.rise : Nat), rising := true } := by
  induction j with
  | zero => simp
  | succ j ih =>
    rw [Nat.add_one_mul] at h ⊢
    rw [Function.iterate_succ_apply', ih (by omega), tick_inside_rising (by omega) (by omega)]
    congr 1
    omega

/-- Before the bottom is reached each tick takes the falling step away. -/
theorem iterate_tick_falling {p : Nat} (hb : 1 ≤ pair.fall) (hp : p ≤ c.scaled) (j : Nat)
    (h : j * pair.fall < p) :
    (Wave.tick c pair)^[j] { p := p, rising := false } =
      { p := (p : Int) - (j * pair.fall : Nat), rising := false } := by
  induction j with
  | zero => simp
  | succ j ih =>
    rw [Nat.add_one_mul] at h ⊢
    rw [Function.iterate_succ_apply', ih (by omega), tick_inside_falling (by omega) (by omega)]
    congr 1
    omega

/-- The rising half from a distance `d` below the top: the last tick of it turns. -/
theorem iterate_tick_to_top {p d : Nat} (hpair : pair.InRange c) (hd : 0 < d)
    (hpd : p + d = c.scaled) :
    (Wave.tick c pair)^[d ⌈/⌉ pair.rise] { p := p, rising := true } =
      { p := 2 * c.scaled - (p + d ⌈/⌉ pair.rise * pair.rise : Nat), rising := false } := by
  obtain ⟨ha, ha', -, -⟩ := hpair
  have hle := le_ceilDiv_mul ha d
  have hlt := ceilDiv_mul_lt ha hd
  obtain ⟨k, hk⟩ := Nat.exists_eq_add_one.2 (ceilDiv_pos ha hd)
  have hlast : k * pair.rise < d := mul_lt_of_lt_ceilDiv ha (by omega)
  rw [hk, Nat.add_one_mul] at hle hlt ⊢
  rw [Function.iterate_succ_apply', iterate_tick_rising ha k (by omega),
    tick_over_top (by omega) (by omega)]
  congr 1
  omega

/-- The falling half from a phase `p` above the bottom: the last tick of it turns. -/
theorem iterate_tick_to_bottom {p : Nat} (hpair : pair.InRange c) (hp : 0 < p)
    (hpS : p ≤ c.scaled) :
    (Wave.tick c pair)^[p ⌈/⌉ pair.fall] { p := p, rising := false } =
      { p := (p ⌈/⌉ pair.fall * pair.fall : Nat) - (p : Int), rising := true } := by
  obtain ⟨-, -, hb, hb'⟩ := hpair
  have hle := le_ceilDiv_mul hb p
  obtain ⟨k, hk⟩ := Nat.exists_eq_add_one.2 (ceilDiv_pos hb hp)
  have hlast : k * pair.fall < p := mul_lt_of_lt_ceilDiv hb (by omega)
  rw [hk, Nat.add_one_mul] at hle ⊢
  rw [Function.iterate_succ_apply', iterate_tick_falling hb hpS k (by omega),
    tick_under_bottom (by omega) (by omega)]
  congr 1
  omega

/-- Settles O35: the rising half turns at `S - e0`, from where the falling half starts. -/
theorem cycleTickCounts : Obligations.CycleTickCounts := by
  intro s rest hs hphase hrising S a b k0 e0 m0 e1 harr
  have hpair := hs.increment_ok
  obtain ⟨ha, haS, hb, -⟩ : 1 ≤ a ∧ a ≤ S ∧ 1 ≤ b ∧ b ≤ S := hs.increment_ok
  have hS : 0 < S := Config.legal_scaled_pos hs.cfg_legal
  have hk0 : S ≤ k0 * a := le_ceilDiv_mul ha S
  have hk0' : k0 * a < S + a := ceilDiv_mul_lt ha hS
  have he0 : e0 = k0 * a - S := rfl
  have hm0 : S - e0 ≤ m0 * b := le_ceilDiv_mul hb (S - e0)
  have hm0' : m0 * b < S - e0 + b := ceilDiv_mul_lt hb (by omega)
  have he1 : e1 = m0 * b - (S - e0) := rfl
  have hstart : s.wave = { p := (0 : Nat), rising := true } :=
    State.wave_eq_iff.2 ⟨hphase, hrising⟩
  have htop : (Wave.tick s.cfg s.increment)^[k0] s.wave =
      { p := (S - e0 : Nat), rising := false } := by
    have hfold : 2 * (S : Int) - (0 + k0 * a : Nat) = (S - e0 : Nat) := by omega
    rw [hstart, ← hfold]
    exact iterate_tick_to_top hpair hS (Nat.zero_add S)
  refine ⟨by omega, by omega, fun j hj => ?rising, fun j hj => ?falling, ?turned⟩
  case rising =>
    have hbelow : 0 + j * a < S := by have := mul_lt_of_lt_ceilDiv ha hj; omega
    obtain ⟨t, hrun, hwave⟩ := runSteps_some_ticks (hj.le.trans (Nat.le_add_right k0 m0)) harr
    rw [hstart, iterate_tick_rising ha j hbelow, State.wave_eq_iff, Nat.zero_add] at hwave
    exact ⟨t, hrun, hwave.2, hwave.1⟩
  case falling =>
    have habove : j * b < S - e0 := mul_lt_of_lt_ceilDiv hb hj
    obtain ⟨t, hrun, hwave⟩ := runSteps_some_ticks (Nat.add_le_add_left hj.le k0) harr
    rw [Nat.add_comm, Function.iterate_add_apply, htop,
      iterate_tick_falling hb (Nat.sub_le S e0) j habove, State.wave_eq_iff] at hwave
    have hlevel : ((S - e0 : Nat) : Int) - (j * b : Nat) = (S : Int) - e0 - (j * b : Nat) := by
      omega
    exact ⟨t, hrun, hwave.2, hwave.1.trans hlevel⟩
  case turned =>
    obtain ⟨t, hrun, hwave, hrest⟩ := runSteps_ticks rest _ s harr
    rw [Nat.add_comm, Function.iterate_add_apply, htop] at hwave
    have hbottom := hwave.trans (iterate_tick_to_bottom hpair (by omega) (Nat.sub_le S e0))
    rw [State.wave_eq_iff] at hbottom
    have hend : ((m0 * b : Nat) : Int) - (S - e0 : Nat) = e1 := by omega
    exact ⟨t, hrun, hbottom.2, hbottom.1.trans hend, hrest⟩

/-- Settles O36: the cycle ends at `e1` (R103 item 2), which is 0 exactly when the falling steps end
at the bottom itself. -/
theorem cycleClosesExactlyWhenTheFallDivides :
    Obligations.CycleClosesExactlyWhenTheFallDivides := by
  intro s rest hs hphase hrising S a b k0 e0 m0 harr
  obtain ⟨ha, -, hb, -⟩ : 1 ≤ a ∧ a ≤ S ∧ 1 ≤ b ∧ b ≤ S := hs.increment_ok
  obtain ⟨-, -, -, -, t, hrun, hr, hend, -⟩ := cycleTickCounts s rest hs hphase hrising harr
  have hend' : t.phase = (m0 * b - (S - e0) : Nat) := hend
  have hcover : S - e0 ≤ m0 * b := le_ceilDiv_mul hb (S - e0)
  have hdivides : m0 * b = S - e0 ↔ b ∣ S - e0 := ceilDiv_mul_eq_iff hb
  have hcloses : t.phase = 0 ↔ b ∣ S - e0 := by rw [← hdivides, hend']; omega
  refine ⟨t, hrun, hr, hcloses, fun haS hbS => hcloses.2 ?_⟩
  have hexact : k0 * a = S := (ceilDiv_mul_eq_iff ha).2 haS
  have he0 : e0 = 0 := Nat.sub_eq_zero_of_le hexact.le
  rwa [he0, Nat.sub_zero]

/-- From inside the bounds some tick turns, no later than the distance to the bound ahead counts:
every tick covers at least 1 of it. -/
theorem Turned.iterate_tick_turns (ht : Turned s) (hs : Invariant s) :
    ∃ n, 1 ≤ n ∧ n ≤ s.cfg.scaled ∧
      ((Wave.tick s.cfg s.increment)^[n] s.wave).rising ≠ s.rising := by
  have hpair := hs.increment_ok
  obtain ⟨ha, -, hb, -⟩ := hs.increment_ok
  have hhigh := hs.phase_le
  obtain ⟨p, hp⟩ := Int.eq_ofNat_of_zero_le hs.phase_nonneg
  cases hr : s.rising with
  | true =>
    have hbelow := ht.below_top hr
    obtain ⟨d, hd⟩ : ∃ d, p + d = s.cfg.scaled := ⟨s.cfg.scaled - p, by omega⟩
    have hpos : 0 < d := by omega
    refine ⟨d ⌈/⌉ s.increment.rise, ceilDiv_pos ha hpos,
      (ceilDiv_le_self ha d).trans (by omega), ?_⟩
    rw [State.wave_eq_iff.2 ⟨hp, hr⟩, iterate_tick_to_top hpair hpos hd]
    exact Bool.false_ne_true
  | false =>
    have habove := ht.above_bottom hr
    have hpos : 0 < p := by omega
    have hle : p ≤ s.cfg.scaled := by omega
    refine ⟨p ⌈/⌉ s.increment.fall, ceilDiv_pos hb hpos, (ceilDiv_le_self hb p).trans hle, ?_⟩
    rw [State.wave_eq_iff.2 ⟨hp, hr⟩, iterate_tick_to_bottom hpair hpos hle]
    exact Bool.false_ne_true.symm

/-- Settles O37. -/
theorem directionTurnsWithinSTicks : Obligations.DirectionTurnsWithinSTicks := by
  intro s rest hs ht harr
  obtain ⟨n, hpos, hle, hturn⟩ := ht.iterate_tick_turns hs
  obtain ⟨t, hrun, hwave⟩ := runSteps_some_ticks hle harr
  have hrising : t.rising = ((Wave.tick s.cfg s.increment)^[n] s.wave).rising :=
    congrArg Wave.rising hwave
  exact ⟨n, t, hpos, hle, hrun, hrising ▸ hturn⟩

end Sys2Proof.Machine

/-! PROOFS. Exceptions: there are none (R104), what the tick context sees of the poll context (R112),
and what the poll context sees of a tick that pre-empts it (R109, R110). -/

namespace Sys2Proof.Machine

variable {c : Config} {s t s' t' u : State}

/-! ### nothing stops (R104) -/

theorem State.boot_refused_iff : (∃ r, State.boot c = .refused r) ↔ c.legal = false := by
  constructor
  · rintro ⟨r, hr⟩
    refine Bool.eq_false_iff.mpr fun hlegal => ?_
    rw [State.boot_of_legal hlegal] at hr
    cases hr
  · exact fun h => ⟨_, State.boot_of_illegal h⟩

/-- Settles O11: no fault exists to be raised, and the only refusal is the one of `State.boot`. -/
theorem noOperationEverStops : Obligations.NoOperationEverStops :=
  ⟨nofun, exec_next, step_next, fun _ => State.boot_refused_iff⟩

/-! ### what `TICK` sees (R112) -/

/-- The phase and the direction `TICK` ends with read nothing but what the states agree on. -/
theorem AgreeForTick.advance (h : AgreeForTick s t) : s.advance = t.advance := by
  simp only [State.advance, State.stepped, h.phase, h.rising, h.increment, h.cfg]

theorem AgreeForTick.exec_tick (h : AgreeForTick s t) (hs : exec .tick s = .next s')
    (ht : exec .tick t = .next t') : AgreeForTick s' t' where
  phase := by rw [exec_tick_phase hs, exec_tick_phase ht, h.advance]
  rising := by rw [exec_tick_rising hs, exec_tick_rising ht, h.advance]
  increment := by rw [exec_tick_frame hs, exec_tick_frame ht]; exact h.increment
  triangleSelected := by rw [exec_tick_frame hs, exec_tick_frame ht]; exact h.triangleSelected
  cfg := by rw [exec_tick_frame hs, exec_tick_frame ht]; exact h.cfg

/-- R98, R99: agreeing states both write and emit one sample, the same one, or both leave the latch
and the events. -/
theorem AgreeForTick.exec_tick_sample (h : AgreeForTick s t) (hs : exec .tick s = .next s')
    (ht : exec .tick t = .next t') :
    (∃ v, (s'.sampleQ = v ∧ s'.events = s.events ++ [.sampleWrite v]) ∧
      t'.sampleQ = v ∧ t'.events = t.events ++ [.sampleWrite v]) ∨
    (s'.sampleQ = s.sampleQ ∧ s'.events = s.events) ∧
      t'.sampleQ = t.sampleQ ∧ t'.events = t.events := by
  have hshape := h.triangleSelected
  cases htri : s.triangleSelected with
  | true =>
    have hwrite := exec_tick_of_triangle ht (hshape ▸ htri)
    rw [← h.advance, ← h.cfg] at hwrite
    exact .inl ⟨_, exec_tick_of_triangle hs htri, hwrite⟩
  | false =>
    have htri' : t.triangleSelected = false := hshape ▸ htri
    by_cases hturn : s.advance.rising = s.rising
    · have hturn' : t.advance.rising = t.rising := by rw [← h.advance, ← h.rising, hturn]
      exact .inr ⟨exec_tick_of_no_turn hs htri hturn, exec_tick_of_no_turn ht htri' hturn'⟩
    · have hturn' : t.advance.rising ≠ t.rising := by rwa [← h.advance, ← h.rising]
      have hwrite := exec_tick_of_turn ht htri' hturn'
      rw [← h.advance, ← h.cfg] at hwrite
      exact .inl ⟨_, exec_tick_of_turn hs htri hturn, hwrite⟩

/-- Settles O38: either both states write the same sample or neither writes any. -/
theorem tickSeesOnlyWhatIsShared : Obligations.TickSeesOnlyWhatIsShared := by
  intro s t s' t' h hs ht
  refine ⟨h.exec_tick hs ht, ?_⟩
  obtain ⟨v, ⟨hq, he⟩, hq', he'⟩ | ⟨⟨hq, he⟩, hq', he'⟩ := h.exec_tick_sample hs ht
  · exact ⟨_, he, he', fun _ => hq.trans hq'.symm, nofun⟩
  · exact ⟨[], by simp [he], by simp [he'], fun hne => absurd rfl hne, fun _ => ⟨hq, hq'⟩⟩

/-! ### what the poll context sees of a `TICK` (R109, R110) -/

/-- The state with the elements that `TICK` writes replaced (R42): S0, S1, S11 and the events. -/
def State.withTickWrites (s : State) (p : Int) (r : Bool) (q : Nat) (es : List Event) : State :=
  { s with phase := p, rising := r, sampleQ := q, events := es }

theorem exec_tick_eq_withTickWrites (h : exec .tick s = .next t) :
    t = s.withTickWrites t.phase t.rising t.sampleQ t.events :=
  exec_tick_frame h

/-- A poll operation reads none of the elements that `TICK` writes, and of them writes only the events,
by appending to them. -/
theorem exec_poll_withTickWrites (k : PollPos) (h : exec k.op s = .next u) :
    ∃ new, u.events = s.events ++ new ∧ ∀ p r q es,
      exec k.op (s.withTickWrites p r q es) = .next (u.withTickWrites p r q (es ++ new)) := by
  have silent (he : u.events = s.events) (hexec : ∀ p r q es,
      exec k.op (s.withTickWrites p r q es) = .next (u.withTickWrites p r q es)) :
      ∃ new, u.events = s.events ++ new ∧ ∀ p r q es,
        exec k.op (s.withTickWrites p r q es) = .next (u.withTickWrites p r q (es ++ new)) :=
    ⟨[], by rw [he, List.append_nil], fun p r q es => by rw [List.append_nil, hexec]⟩
  cases k with
  | swchk0 =>
    rw [PollPos.op, exec, execSwchk_rangeOverride_eq] at h
    cases h
    exact ⟨_, rfl, fun _ _ _ _ => execSwchk_rangeOverride_eq _⟩
  | swchk1 =>
    rw [PollPos.op, exec, execSwchk_waveformShape_eq] at h
    cases h
    exact silent rfl fun _ _ _ _ => execSwchk_waveformShape_eq _
  | rauto =>
    rw [PollPos.op, exec, execRauto_eq] at h
    cases h
    exact ⟨_, rfl, fun _ _ _ _ => execRauto_eq _⟩
  | pcalc =>
    rw [PollPos.op] at h
    cases hchanged : s.changed with
    | true =>
      rw [exec_pcalc_of_changed hchanged] at h
      cases h
      exact silent rfl fun _ _ _ _ => exec_pcalc_of_changed hchanged
    | false =>
      rw [exec_pcalc_of_unchanged hchanged] at h
      cases h
      exact silent rfl fun _ _ _ _ => exec_pcalc_of_unchanged hchanged
  | commit =>
    rw [PollPos.op, exec, execCommit_eq] at h
    cases h
    exact silent rfl fun _ _ _ _ => execCommit_eq _

/-- R71: `TICK` keeps the range, so it emits no notification. -/
theorem exec_tick_notifications (h : exec .tick s = .next t) :
    notifications t.events = notifications s.events := by
  obtain ⟨new, hemit⟩ := exec_emits h
  have hrange : t.highRange = s.highRange := by rw [exec_tick_frame h]
  rw [hemit.events, notifications_append, hemit.notified, if_pos hrange, List.append_nil]

/-- The operations of the `POLL` expansion are the five that a position names (R59). -/
theorem exists_pollPos_op {i : Instr}
    (h : (∃ k, i = .swchk k) ∨ i = .rauto ∨ i = .pcalc ∨ i = .commit) :
    ∃ q : PollPos, q.op = i := by
  obtain ⟨k, rfl⟩ | rfl | rfl | rfl := h
  · cases k with
    | rangeOverride => exact ⟨.swchk0, rfl⟩
    | waveformShape => exact ⟨.swchk1, rfl⟩
  · exact ⟨.rauto, rfl⟩
  · exact ⟨.pcalc, rfl⟩
  · exact ⟨.commit, rfl⟩

/-- Settles O60: after the `TICK` the poll operation finds the same state but for the tick's writes,
and appends the same events. -/
theorem tickIsTransparentToThePollContext : Obligations.TickIsTransparentToThePollContext := by
  intro i s t u v hi htick hu hv
  obtain ⟨k, rfl⟩ := exists_pollPos_op hi
  obtain ⟨new, hnew, hexec⟩ := exec_poll_withTickWrites k hu
  rw [exec_tick_eq_withTickWrites htick, hexec, Host.Outcome.next.injEq] at hv
  subst hv
  refine ⟨rfl, rfl, rfl, rfl, ?_⟩
  calc notifications (t.events ++ new)
    _ = notifications s.events ++ notifications new := by
      rw [notifications_append, exec_tick_notifications htick]
    _ = notifications u.events := by rw [hnew, notifications_append]

end Sys2Proof.Machine

/-! PROOFS. Reset (R116): the reset action and the outputs after reset; and the order of a `TICK` and a
`PCALC` requested together (R126), which leaves no trace. -/

namespace Sys2Proof.Machine

variable {s t u : State}

/-! ### reset (R116) -/

/-- Settles O10: the reset action presents no command word, so the step is the reset alone. -/
theorem resetActionRestoresTheResetState : Obligations.ResetActionRestoresTheResetState :=
  fun _ _ h => step_reset h

/-- R28, R65(f): the raw level a switch rests at is its inverted one, whatever the polarity. -/
theorem levelOn_invert (k : SwitchConfig) : levelOn k k.invert = false := Bool.xor_self _

theorem reset_swOn (c : Config) (i : SwitchIndex) : (State.resetOf c).swOn i = false := by
  cases i with
  | rangeOverride => exact levelOn_invert c.sw0
  | waveformShape => exact levelOn_invert c.sw1

/-- Settles O15: the event sequence, the level outputs and the poll position are written out in
`State.resetOf`; a switch resets to its resting level. -/
theorem resetOutputs : Obligations.ResetOutputs :=
  fun c => ⟨rfl, rfl, rfl, rfl, reset_swOn c⟩

/-! ### the order of `TICK` and `PCALC` (R126) -/

/-- `TICK` reads none of the elements that `PCALC` writes (R42), so after a `PCALC` it writes what it
would have written before. -/
theorem exec_tick_of_pcalc (htick : exec .tick s = .next t) (hpcalc : exec .pcalc s = .next u) :
    exec .tick u = .next (u.withTickWrites t.phase t.rising t.sampleQ t.events) := by
  rw [exec, execTick_eq] at htick
  cases htick
  obtain rfl | rfl := exec_pcalc_cases hpcalc
  · exact execTick_eq _
  · exact execTick_eq _

/-- `PCALC` reads none of the elements that `TICK` writes and emits nothing (R42), so after a `TICK` it
leaves those elements as the `TICK` left them. -/
theorem exec_pcalc_of_tick (htick : exec .tick s = .next t) (hpcalc : exec .pcalc s = .next u) :
    exec .pcalc t = .next (u.withTickWrites t.phase t.rising t.sampleQ t.events) := by
  obtain ⟨new, hemitted, hexec⟩ := exec_poll_withTickWrites .pcalc hpcalc
  have hevents : u.events = s.events := by rw [exec_pcalc_frame hpcalc]
  have hsilent : new = [] := List.append_right_eq_self.1 (hemitted.symm.trans hevents)
  subst hsilent
  calc exec .pcalc t
    _ = exec .pcalc (s.withTickWrites t.phase t.rising t.sampleQ t.events) := by
      rw [← exec_tick_eq_withTickWrites htick]
    _ = .next (u.withTickWrites t.phase t.rising t.sampleQ t.events) := by
      rw [← PollPos.op, hexec, List.append_nil]

/-- Settles O59: in either order the state is what `PCALC` alone leaves, with the elements that `TICK`
writes as `TICK` alone leaves them. -/
theorem tickAndPcalcCommute : Obligations.TickAndPcalcCommute :=
  fun _ _ _ htick hpcalc =>
    ⟨_, exec_pcalc_of_tick htick hpcalc, exec_tick_of_pcalc htick hpcalc⟩

end Sys2Proof.Machine
